-- ==== Sys2Proof/Word.lean ====
section
/-! DEFINITION. The data the machine moves (spec/00_scope.md R13, R14): bytes, bus words, and the cells of the
module matrix. Bit 0 is the least significant bit everywhere (R13), which is how BitVec numbers its bits. -/

namespace Sys2Proof

/-- An 8-bit unit: a field element, a codeword, a text byte, a document byte. -/
abbrev Byte := BitVec 8

/-- A 32-bit word of the host bus (spec/20_memory.md R60). -/
abbrev Word := BitVec 32

/-- The three states of a module (spec/10_state.md R45): Light is module value 0, Dark is 1. -/
inductive Val where
  /-- no module value has been set yet -/
  | unset
  /-- module value 0 -/
  | light
  /-- module value 1 -/
  | dark
  deriving DecidableEq, Repr, Inhabited

/-- A cell of MATRIX (spec/10_state.md R45): its module value and its function flag. -/
structure Cell where
  /-- Unset, Light or Dark -/
  val : Val
  /-- true for a structural cell, false for a data cell -/
  func : Bool
  deriving DecidableEq, Repr, Inhabited

end Sys2Proof
end

