-- ==== Sys2Proof/Syntax.lean ====
section
/-! DEFINITION. The command set (spec/30_encoding.md R95): one constructor per row of spec/opcode_table.json.
A command word has no register or immediate field (R91), so no constructor has an argument. -/

namespace Sys2Proof

/-- The eight commands of "QRC29 command set, version 1" (spec/00_scope.md R2, spec/30_encoding.md R95). -/
inductive Instr where
  /-- NOP, OPC 0x00 (spec/45_pipeline.md R230) -/
  | nop
  /-- GF_MUL, OPC 0x01 (spec/40_gf_arith.md R119) -/
  | gfMul
  /-- RS_GEN, OPC 0x02 (spec/41_reed_solomon.md R134) -/
  | rsGen
  /-- RS_REM, OPC 0x03 (spec/41_reed_solomon.md R135) -/
  | rsRem
  /-- ENCODE, OPC 0x04 (spec/42_bitstream.md R156) -/
  | encode
  /-- BUILD, OPC 0x05 (spec/43_matrix.md R171) -/
  | build
  /-- RENDER, OPC 0x06 (spec/44_render.md R221) -/
  | render
  /-- RUN, OPC 0x07 (spec/45_pipeline.md R231) -/
  | run
  deriving DecidableEq, Repr, Inhabited

/-- Every command, in opcode order. -/
def Instr.all : List Instr := [.nop, .gfMul, .rsGen, .rsRem, .encode, .build, .render, .run]

end Sys2Proof
end

