-- ==== Sys2Proof/WellFormed.lean ====
section
/-! DEFINITION. Well-formedness. The command set has one format, C, of one 32-bit word (spec/30_encoding.md R90):
the checks are on the word, and R95 and R96 name the only two. An Instr has no field, so every Instr is well-formed. -/

namespace Sys2Proof

/-- R90: the field RSV, bits [31:8], must be 0. -/
abbrev WordReservedZero (w : Word) : Prop := w.extractLsb' 8 24 = 0#24

/-- R95, R96: the field OPC, bits [7:0], must be a mapped opcode, 0x00 to 0x07. -/
abbrev WordOpcodeMapped (w : Word) : Prop := w.extractLsb' 0 8 ≤ 0x07#8

/-- A word is a command exactly when both checks pass (R95, last sentence). -/
abbrev WordWellFormed (w : Word) : Prop := WordReservedZero w ∧ WordOpcodeMapped w

/-- R91: a command has no register or immediate field, so there is nothing in an Instr to check. -/
def Instr.wf : Instr → Bool
  | .nop | .gfMul | .rsGen | .rsRem | .encode | .build | .render | .run => true

end Sys2Proof
end

