-- ==== Sys2Proof/Decode.lean ====
section
/-! DEFINITION. The decoder and the encoder of command words (spec/30_encoding.md R90, R95, R96, R97). -/

namespace Sys2Proof

/-- Why a word is no command (R96). Both end an accepted command with ILLEGAL_COMMAND (spec/60_exceptions.md R246). -/
inductive DecodeError where
  /-- bits [31:8] are not all 0 -/
  | reservedBits
  /-- bits [31:8] are 0 and OPC is in 0x08..0xFF -/
  | unmappedOpcode
  deriving DecidableEq, Repr

/-- The field OPC of a command word (R90). -/
def opcOf (w : Word) : Byte := w.extractLsb' 0 8

/-- The field RSV of a command word (R90). -/
def rsvOf (w : Word) : BitVec 24 := w.extractLsb' 8 24

/-- The opcode map (R95). -/
def instrOfOpc (opc : Byte) : Option Instr :=
  match opc.toNat with
  | 0x00 => some .nop
  | 0x01 => some .gfMul
  | 0x02 => some .rsGen
  | 0x03 => some .rsRem
  | 0x04 => some .encode
  | 0x05 => some .build
  | 0x06 => some .render
  | 0x07 => some .run
  | _ => none

/-- The decoding procedure (R97): total on every 32-bit word. -/
def decode (w : Word) : Except DecodeError Instr :=
  if rsvOf w ≠ 0#24 then .error .reservedBits
  else
    match instrOfOpc (opcOf w) with
    | some i => .ok i
    | none => .error .unmappedOpcode

/-- The opcode of a command (R95). -/
def opcOfInstr : Instr → Byte
  | .nop => 0x00#8
  | .gfMul => 0x01#8
  | .rsGen => 0x02#8
  | .rsRem => 0x03#8
  | .encode => 0x04#8
  | .build => 0x05#8
  | .render => 0x06#8
  | .run => 0x07#8

/-- The word of a command (R95): RSV = 0 above OPC. -/
def encode (i : Instr) : Word := 0#24 ++ opcOfInstr i

/-- The CMD word the opcode table numbers as `w`: the command is the whole 32-bit word (R90), so a word given in
fewer bits has zeros above them. -/
def tableWord (nbits w : Nat) : Word := BitVec.ofNat 32 (w % 2 ^ nbits)

/-- The command this decoder reads from a word of spec/opcode_table.json, none where it refuses. -/
def decodeTableWord (nbits w : Nat) : Option Instr :=
  match decode (tableWord nbits w) with
  | .ok i => some i
  | .error _ => none

end Sys2Proof
end

