-- ==== Sys2Proof/Config.lean ====
section
/-! DEFINITION. What an implementation leaves open: the free values (spec/93_implementation_defined.md I1, I2, I3,
I6, I8). Each is opaque, without a body: no proof can know a value. `draw` is the number of the step that asks
(the field `draws` of State), so each use is a fresh draw. The spec's other open parameters, LAT, LAT_INIT and SINK
(spec/92_eei_decisions.md section 2), are the list `inputs` of State. -/

namespace Sys2Proof

/-- A host read whose value the spec leaves unspecified: while BUSY (I1), of EXP or LOG before READY (I2), while rst
is asserted (I8). UNVERIFIED value; log 5. -/
opaque Config.freeRead (draw : Nat) : Word

/-- A TEXT entry that nothing has written since the last reset (I3), as the step `draw` reads entry `i`. Log 4. -/
opaque Config.freeText (draw i : Nat) : Byte

/-- A CW entry that nothing has written since the last reset (I3), as the step `draw` reads entry `i`. Log 4. -/
opaque Config.freeCw (draw i : Nat) : Byte

/-- A cell of MATRIX after a BUILD that failed its invariant check (I6). Log 8. -/
opaque Config.freeCell (draw r c : Nat) : Cell

end Sys2Proof
end

