-- ==== Sys2Proof/Machine/State.lean ====
section
/-! DEFINITION. The state of QRC29 as plain data (spec/10_state.md), the outside world's moves and the state after
reset (R55). Every piece is listed in INVENTORY.md under "State". -/

namespace Sys2Proof.Machine

/-- Why the machine stops: never. No rule of the spec stops the machine; every error ends its command and leaves the
block running (spec/60_exceptions.md R240, R252), so this type has no constructor. -/
inductive Fault where
  deriving DecidableEq, Repr

/-- Why a command has no meaning in this model. -/
inductive Refusal where
  /-- Raised by an arm of exec whose command has no meaning yet; no arm of this model raises it. Safe. -/
  | notModelled (mnemonic : String)
  deriving DecidableEq, Repr

/-- The error codes of STATUS.ERR_CODE (spec/60_exceptions.md R241); codes 0x08..0xFF are never written. -/
inductive ErrCode where
  /-- 0x00 -/
  | noError
  /-- 0x01 (R242) -/
  | capacityExceeded
  /-- 0x02 (R243) -/
  | internalInvariant
  /-- 0x03 (R244) -/
  | invalidDimension
  /-- 0x04 (R245) -/
  | ioFailure
  /-- 0x05 (R246) -/
  | illegalCommand
  /-- 0x06 (R247) -/
  | operandRange
  /-- 0x07 (R248) -/
  | matrixIncomplete
  deriving DecidableEq, Repr

/-- A RAM: (entry index, byte) pairs, indexes strictly rising, only entries written since the last reset. An index
that is not listed holds no value a model may rely on (spec/70_reset_and_hazards.md R272). -/
abbrev Memory := List Host.Cell

/-- MATRIX: 29 rows of 29 cells (spec/10_state.md R45). -/
abbrev ModuleMatrix := Vector (Vector Cell 29) 29

/-- The field tables (spec/10_state.md R40, R41). -/
structure Tables where
  /-- EXP, 512 entries -/
  exp : Vector Byte 512
  /-- LOG, 256 entries -/
  log : Vector Byte 256
  deriving DecidableEq, Repr

/-- The hidden position of table initialisation (spec/10_state.md R53 (a), spec/40_gf_arith.md R111). -/
structure InitPos where
  /-- the step counter: 0..254 in the loop, 255 when the loop is done -/
  i : Fin 256
  /-- the 9-bit working value -/
  x : BitVec 9
  /-- the 256-entry bit set of values seen -/
  seen : Vector Bool 256
  deriving DecidableEq, Repr

/-- The hidden position of a render (spec/10_state.md R53 (e), spec/44_render.md R217). -/
structure RenderPos where
  /-- how many bytes of the document have been transferred -/
  pos : Nat
  /-- the byte on doc_data -/
  offered : Byte
  /-- the document's bytes after the offered one -/
  rest : List Byte
  deriving DecidableEq, Repr

/-- The control state of the core sequencer (spec/10_state.md R21). `busy` and `stream` are the spec's BUSY. -/
inductive Seq where
  /-- INIT: the table construction is running (spec/70_reset_and_hazards.md R273) -/
  | init (p : InitPos)
  /-- INIT_FAILED: left only by reset (spec/60_exceptions.md R249) -/
  | initFailed
  /-- IDLE: commands are accepted (spec/60_exceptions.md R250) -/
  | idle
  /-- BUSY: the CMD word `w` has been accepted and not yet run -/
  | busy (w : Word)
  /-- BUSY: RENDER, or RUN's stage 4, is streaming its document -/
  | stream (p : RenderPos)
  deriving DecidableEq, Repr

/-- One move of the outside world, or one turn of the core (spec/00_scope.md R10, spec/70_reset_and_hazards.md
R287). -/
inductive Input where
  /-- the core sequencer gets the turn -/
  | core
  /-- `MemRead(addr, 4)` (spec/20_memory.md R60) -/
  | read (addr : BitVec 16)
  /-- `MemWrite(addr, 4, data)` (spec/20_memory.md R61) -/
  | write (addr : BitVec 16) (data : Word)
  /-- a cycle of the sink with these levels of doc_ready and doc_err (spec/44_render.md R217, R219) -/
  | sink (ready err : Bool)
  /-- the platform drives rst to this level (spec/70_reset_and_hazards.md R270) -/
  | reset (asserted : Bool)
  deriving DecidableEq, Repr

/-- A host read as the host saw it (spec/00_scope.md R11). -/
structure BusRead where
  /-- the address presented -/
  addr : BitVec 16
  /-- the word returned -/
  data : Word
  deriving DecidableEq, Repr

/-- A byte transferred on the document port, with its marks (spec/44_render.md R217, R218). -/
structure DocByte where
  /-- doc_data -/
  data : Byte
  /-- doc_first -/
  first : Bool
  /-- doc_last -/
  last : Bool
  deriving DecidableEq, Repr

/-- The whole machine. BUSY, READY and FATAL are read from `seq` (Machine/Flags.lean). -/
structure State where
  /-- STATUS.DROPPED (R31) -/
  dropped : Bool
  /-- STATUS.ERR_CODE (R31) -/
  errCode : ErrCode
  /-- STATUS.LAST_CMD (R31) -/
  lastCmd : Byte
  /-- ERR_INFO (R33) -/
  errInfo : Word
  /-- GF_A (R34) -/
  gfA : Byte
  /-- GF_B (R35) -/
  gfB : Byte
  /-- GF_R (R36) -/
  gfR : Byte
  /-- RS_LEN (R37) -/
  rsLen : Byte
  /-- RS_DEG (R38) -/
  rsDeg : Byte
  /-- TEXT_LEN (R39) -/
  textLen : Byte
  /-- SCALE, two's complement (R46) -/
  scale : BitVec 16
  /-- PAD, two's complement (R47) -/
  pad : BitVec 16
  /-- OUT_COUNT (R48) -/
  outCount : Word
  /-- EXP and LOG (R40, R41) -/
  tables : Tables
  /-- GEN (R42) -/
  gen : Vector Byte 33
  /-- TEXT (R43) -/
  text : Memory
  /-- CW (R44) -/
  cw : Memory
  /-- MATRIX (R45) -/
  matrix : ModuleMatrix
  /-- the sequencer (R21, R53) -/
  seq : Seq
  /-- the level of the input rst (R270) -/
  rst : Bool
  /-- the model's own: the outside world's coming moves, oldest first (log 1) -/
  inputs : List Input
  /-- the model's own: the host reads answered, newest first (log 10) -/
  reads : List BusRead
  /-- the model's own: the bytes the sink has taken, newest first (log 10) -/
  sent : List DocByte
  /-- the model's own: the number of the step, which names its free values (log 6) -/
  draws : Nat
  deriving DecidableEq, Repr

/-- The matrix "allocated fully unset" (R45, spec/43_matrix.md R172). -/
def ModuleMatrix.allUnset : ModuleMatrix := Vector.replicate 29 (Vector.replicate 29 ⟨.unset, false⟩)

/-- EXP and LOG before the table construction writes them. DESIGN CHOICE, log 7: the spec leaves them unspecified
until READY and no rule reads them before (R40, R41). -/
def Tables.reset : Tables := ⟨Vector.replicate 512 0#8, Vector.replicate 256 0#8⟩

/-- The first lines of the table construction (spec/40_gf_arith.md R111): nothing seen, x = 1, i = 0. -/
def InitPos.start : InitPos := ⟨0, 1#9, Vector.replicate 256 false⟩

/-- The machine right after reset (R55). TEXT and CW are not reset: nothing is listed (R272). -/
def State.reset : State where
  dropped := false
  errCode := .noError
  lastCmd := 0#8
  errInfo := 0#32
  gfA := 0#8
  gfB := 0#8
  gfR := 0#8
  rsLen := 0#8
  rsDeg := 0#8
  textLen := 0#8
  scale := 0#16
  pad := 0#16
  outCount := 0#32
  tables := Tables.reset
  gen := Vector.replicate 33 0#8
  text := []
  cw := []
  matrix := ModuleMatrix.allUnset
  seq := .init InitPos.start
  rst := false
  inputs := []
  reads := []
  sent := []
  draws := 0

end Sys2Proof.Machine
end

