-- ==== Sys2Proof/Machine/Ops.lean ====
section
/-! DEFINITION. The named operations over the RAMs, the matrix and the sequencer: reading and writing entries and
cells, accepting a command (spec/60_exceptions.md R250), ending one (R253), and raising an error (R252), which is
this hardware's only form of exception entry. -/

namespace Sys2Proof.Machine

/-! ### The RAMs -/

/-- The byte at entry `a`, none where nothing has been written since reset. -/
def Memory.read : Memory → Nat → Option Byte
  | [], _ => none
  | (k, v) :: m, a => if k = a then some v else Memory.read m a

/-- Entry `a` takes the byte `b`; the list stays strictly rising. -/
def Memory.write : Memory → Nat → Byte → Memory
  | [], a, b => [(a, b)]
  | (k, v) :: m, a, b =>
    if a < k then (a, b) :: (k, v) :: m
    else if a = k then (a, b) :: m
    else (k, v) :: Memory.write m a b

/-- Entries `a`, `a + 1`, ... take the bytes of the list, in order. -/
def Memory.writeList : Memory → Nat → List Byte → Memory
  | m, _, [] => m
  | m, a, b :: bs => Memory.writeList (Memory.write m a b) (a + 1) bs

/-- The canonical form of a RAM of `cap` entries: indexes strictly rising and below `cap`. -/
abbrev Memory.wf (cap : Nat) (m : Memory) : Prop :=
  m.Pairwise (fun x y => x.1 < y.1) ∧ ∀ x ∈ m, x.1 < cap

/-! ### The matrix -/

/-- The cell at (row, col), row 0 at the top, column 0 at the left (spec/00_scope.md R16). -/
def ModuleMatrix.get (m : ModuleMatrix) (r c : Fin 29) : Cell := (Vector.get m r).get c

/-- The matrix with one cell replaced. -/
def ModuleMatrix.set (m : ModuleMatrix) (r c : Fin 29) (x : Cell) : ModuleMatrix :=
  Vector.set m r (Vector.set (Vector.get m r) c x)

/-- All 841 coordinates in row-major order. -/
def allCells : List (Fin 29 × Fin 29) :=
  (List.finRange 29).flatMap fun r => (List.finRange 29).map fun c => (r, c)

/-! ### The sequencer -/

/-- STATUS.BUSY: 1 from the acceptance of a command to its end (spec/10_state.md R31, R21). -/
def State.isBusy (s : State) : Bool :=
  match s.seq with
  | .busy _ | .stream _ => true
  | .init _ | .initFailed | .idle => false

/-- STATUS.READY: table initialisation has passed (spec/10_state.md R31, spec/70_reset_and_hazards.md R274). -/
def State.isReady (s : State) : Bool :=
  match s.seq with
  | .init _ | .initFailed => false
  | .idle | .busy _ | .stream _ => true

/-- STATUS.FATAL: table initialisation failed (spec/60_exceptions.md R249). -/
def State.isFatal (s : State) : Bool :=
  match s.seq with
  | .initFailed => true
  | .init _ | .idle | .busy _ | .stream _ => false

/-- Whether OUT_COUNT is set to 0 when `w` is accepted: RENDER and RUN (spec/10_state.md R48, spec/44_render.md
R220). -/
def clearsOutCount (w : Word) : Bool :=
  match decode w with
  | .ok .render | .ok .run => true
  | .ok .nop | .ok .gfMul | .ok .rsGen | .ok .rsRem | .ok .encode | .ok .build | .error _ => false

/-- Acceptance of the CMD word `w` (spec/60_exceptions.md R250): BUSY, ERR_CODE 0, ERR_INFO 0, LAST_CMD; and
OUT_COUNT 0 for RENDER and RUN. -/
def State.accept (s : State) (w : Word) : State :=
  { s with
    seq := .busy w
    errCode := .noError
    errInfo := 0#32
    lastCmd := opcOf w
    outCount := if clearsOutCount w then 0#32 else s.outCount }

/-- End of a command, successful or failed (spec/60_exceptions.md R253): BUSY 0, seq IDLE, all else kept. -/
def State.endCommand (s : State) : State := { s with seq := .idle }

/-- `raise Error(code, info)` (spec/60_exceptions.md R252): ERR_CODE, ERR_INFO, then the end of the command. -/
def State.raise (s : State) (code : ErrCode) (info : Word) : State :=
  State.endCommand { s with errCode := code, errInfo := info }

/-- A stage of a command has either completed, or raised an error that ended the command (R252: nothing after it in
the rule runs). -/
inductive Stage where
  /-- the stage completed; the command goes on -/
  | done (s : State)
  /-- an error ended the command in this state -/
  | ended (s : State)
  deriving DecidableEq, Repr

/-- The next stage runs only after a completed one (spec/45_pipeline.md R231, stopping at the first error). -/
def Stage.andThen : Stage → (State → Stage) → Stage
  | .done s, f => f s
  | .ended s, _ => .ended s

/-- What is left of a command whose last stage is this one (R253). -/
def Stage.finish : Stage → State
  | .done s => s.endCommand
  | .ended s => s

/-- The platform asserts rst (spec/70_reset_and_hazards.md R270, R286): everything in progress is abandoned and every
piece of the machine's state takes its reset value; the outside world's moves and the observers' records are not the
machine's and stay. -/
def State.assertReset (s : State) : State :=
  { State.reset with rst := true, inputs := s.inputs, reads := s.reads, sent := s.sent, draws := s.draws }

/-- The platform deasserts rst (R270): initialisation starts from the reset values. -/
def State.deassertReset (s : State) : State := { s with rst := false }

/-- The head of a step: the next outside move is taken off the list, and the step gets its number, which names its
free values (log 1, log 6). -/
def State.tick (s : State) : State := { s with inputs := s.inputs.tail, draws := s.draws + 1 }

end Sys2Proof.Machine
end

