-- ==== Sys2Proof/Machine/Flags.lean ====
section
/-! DEFINITION. The STATUS register (spec/10_state.md R31), the hardware's only flags (R50), and the error codes
(spec/60_exceptions.md R241). -/

namespace Sys2Proof.Machine

/-- The 8-bit code of an error (R241). -/
def ErrCode.code : ErrCode → Byte
  | .noError => 0x00#8
  | .capacityExceeded => 0x01#8
  | .internalInvariant => 0x02#8
  | .invalidDimension => 0x03#8
  | .ioFailure => 0x04#8
  | .illegalCommand => 0x05#8
  | .operandRange => 0x06#8
  | .matrixIncomplete => 0x07#8

/-- STATUS as the host reads it (R31): [31:24] 0, [23:16] LAST_CMD, [15:8] ERR_CODE, [7:4] 0, DROPPED, FATAL, READY,
BUSY. -/
def State.statusWord (s : State) : Word :=
  0#8 ++ s.lastCmd ++ s.errCode.code ++ 0#4 ++ BitVec.ofBool s.dropped ++ BitVec.ofBool s.isFatal
    ++ BitVec.ofBool s.isReady ++ BitVec.ofBool s.isBusy

/-- A host write is dropped: it changes nothing but sets DROPPED (spec/60_exceptions.md R250). -/
def State.drop (s : State) : State := { s with dropped := true }

/-- A host write to STATUS (R31): bit 3 set clears DROPPED; nothing else is writable. -/
def State.writeStatus (s : State) (v : Word) : State :=
  { s with dropped := s.dropped && !v.getLsbD 3 }

end Sys2Proof.Machine
end

