-- ==== Sys2Proof/Machine/Operands.lean ====
section
/-! DEFINITION. The operand forms (spec/30_encoding.md R92): each command reads fixed registers and arrays, none
scaled or shifted. Unsigned operands are natural numbers, SCALE and PAD are integers (spec/00_scope.md R14). -/

namespace Sys2Proof.Machine

/-- L = x[RS_LEN][7:0], 0..255. -/
def State.opL (s : State) : Nat := s.rsLen.toNat

/-- k = x[RS_DEG][7:0], 0..255. -/
def State.opK (s : State) : Nat := s.rsDeg.toNat

/-- n = x[TEXT_LEN][7:0], 0..255. -/
def State.opN (s : State) : Nat := s.textLen.toNat

/-- s = sext(x[SCALE][15:0]), −32768..32767. -/
def State.opScale (s : State) : Int := s.scale.toInt

/-- p = sext(x[PAD][15:0]), −32768..32767. -/
def State.opPad (s : State) : Int := s.pad.toInt

/-- TEXT[i] as a command or the host reads it; an entry not written since reset is a fresh free value
(spec/93_implementation_defined.md I3, log 4). -/
def State.textEntry (s : State) (i : Nat) : Byte := (Memory.read s.text i).getD (Config.freeText s.draws i)

/-- CW[i] as a command or the host reads it; an entry not written since reset is a fresh free value (I3, log 4). -/
def State.cwEntry (s : State) (i : Nat) : Byte := (Memory.read s.cw i).getD (Config.freeCw s.draws i)

/-- [TEXT[0], ..., TEXT[n−1]]. -/
def State.textPrefix (s : State) (n : Nat) : List Byte := (List.range n).map s.textEntry

/-- [CW[0], ..., CW[n−1]]. -/
def State.cwPrefix (s : State) (n : Nat) : List Byte := (List.range n).map s.cwEntry

end Sys2Proof.Machine
end

