-- ==== Sys2Proof/Machine/Bus.lean ====
section
/-! DEFINITION. The host bus (spec/20_memory.md): the address map (R64), host reads (R60) and host writes (R61) with
the rules of spec/70_reset_and_hazards.md R280 to R282 and spec/60_exceptions.md R250. -/

namespace Sys2Proof.Machine

/-- What is mapped at a word of the host address space (R64). -/
inductive Loc where
  | id
  | status
  | cmd
  | errInfo
  | gfA
  | gfB
  | gfR
  | rsLen
  | rsDeg
  | textLen
  | scale
  | pad
  | outCount
  | exp (i : Fin 512)
  | log (i : Fin 256)
  | gen (i : Fin 33)
  | text (i : Fin 256)
  | cw (i : Fin 128)
  | matrix (r c : Fin 29)
  | reserved
  deriving DecidableEq, Repr

/-- The thirteen registers at words 0..12 of the map (R64); the words up to 0x0FFC are reserved. -/
def locateRegister (w : Nat) : Loc :=
  match w with
  | 0 => .id
  | 1 => .status
  | 2 => .cmd
  | 3 => .errInfo
  | 4 => .gfA
  | 5 => .gfB
  | 6 => .gfR
  | 7 => .rsLen
  | 8 => .rsDeg
  | 9 => .textLen
  | 10 => .scale
  | 11 => .pad
  | 12 => .outCount
  | _ => .reserved

/-- The MATRIX window (R64): word 32·r + c of the window is cell (r, c); slots c = 29..31 are reserved. -/
def locateCell (w : Nat) : Loc :=
  if h : w / 32 < 29 ∧ w % 32 < 29 then .matrix ⟨w / 32, h.1⟩ ⟨w % 32, h.2⟩ else .reserved

/-- The address map by word number, addr[15:2] (R64). -/
def locateWord (w : Nat) : Loc :=
  if w < 0x400 then locateRegister w
  else if h : 0x400 ≤ w ∧ w < 0x600 then .exp ⟨w - 0x400, by omega⟩
  else if h : 0x600 ≤ w ∧ w < 0x700 then .log ⟨w - 0x600, by omega⟩
  else if h : 0x700 ≤ w ∧ w < 0x721 then .gen ⟨w - 0x700, by omega⟩
  else if h : 0x800 ≤ w ∧ w < 0x900 then .text ⟨w - 0x800, by omega⟩
  else if h : 0x900 ≤ w ∧ w < 0x980 then .cw ⟨w - 0x900, by omega⟩
  else if 0xC00 ≤ w then locateCell (w - 0xC00)
  else .reserved

/-- What a byte address reaches; bits [1:0] are ignored (R62). -/
def locate (addr : BitVec 16) : Loc := locateWord (addr.toNat / 4)

/-- The byte address of a mapped word (R64); the first reserved word stands for the reserved ones. -/
def addrOf : Loc → BitVec 16
  | .id => 0x0000#16
  | .status => 0x0004#16
  | .cmd => 0x0008#16
  | .errInfo => 0x000C#16
  | .gfA => 0x0010#16
  | .gfB => 0x0014#16
  | .gfR => 0x0018#16
  | .rsLen => 0x001C#16
  | .rsDeg => 0x0020#16
  | .textLen => 0x0024#16
  | .scale => 0x0028#16
  | .pad => 0x002C#16
  | .outCount => 0x0030#16
  | .exp i => BitVec.ofNat 16 (0x1000 + 4 * i.val)
  | .log i => BitVec.ofNat 16 (0x1800 + 4 * i.val)
  | .gen i => BitVec.ofNat 16 (0x1C00 + 4 * i.val)
  | .text i => BitVec.ofNat 16 (0x2000 + 4 * i.val)
  | .cw i => BitVec.ofNat 16 (0x2400 + 4 * i.val)
  | .matrix r c => BitVec.ofNat 16 (0x3000 + 4 * (32 * r.val + c.val))
  | .reserved => 0x0034#16

/-- ID (spec/10_state.md R30). -/
def idWord : Word := 0x5152031D#32

/-- The MATRIX window format (spec/43_matrix.md R190): FUNC bit 2, SET bit 1, DARK bit 0. -/
def cellWord (x : Cell) : Word :=
  0#29 ++ BitVec.ofBool x.func ++ BitVec.ofBool (decide (x.val ≠ .unset)) ++ BitVec.ofBool (decide (x.val = .dark))

/-- The value of a mapped word (R60, R64), outside the cases the spec leaves unspecified. -/
def State.readLoc (s : State) : Loc → Word
  | .id => idWord
  | .status => s.statusWord
  | .cmd => 0#32
  | .errInfo => s.errInfo
  | .gfA => s.gfA.setWidth 32
  | .gfB => s.gfB.setWidth 32
  | .gfR => s.gfR.setWidth 32
  | .rsLen => s.rsLen.setWidth 32
  | .rsDeg => s.rsDeg.setWidth 32
  | .textLen => s.textLen.setWidth 32
  | .scale => s.scale.setWidth 32
  | .pad => s.pad.setWidth 32
  | .outCount => s.outCount
  | .exp i => (s.tables.exp.get i).setWidth 32
  | .log i => (s.tables.log.get i).setWidth 32
  | .gen i => (s.gen.get i).setWidth 32
  | .text i => (s.textEntry i.val).setWidth 32
  | .cw i => (s.cwEntry i.val).setWidth 32
  | .matrix r c => cellWord (s.matrix.get r c)
  | .reserved => 0#32

/-- Whether a host read is unspecified: while rst is asserted (spec/70_reset_and_hazards.md R270); while BUSY, all
but ID and STATUS (R281); before READY, EXP and LOG (R282). -/
def State.readUnspecified (s : State) (l : Loc) : Bool :=
  s.rst ||
  match l with
  | .id | .status => false
  | .exp _ | .log _ => s.isBusy || !s.isReady
  | .cmd | .errInfo | .gfA | .gfB | .gfR | .rsLen | .rsDeg | .textLen | .scale | .pad | .outCount
  | .gen _ | .text _ | .cw _ | .matrix _ _ | .reserved => s.isBusy

/-- `MemRead(addr, 4)` (R60): an unspecified value is a free value (log 5). -/
def State.readWord (s : State) (addr : BitVec 16) : Word :=
  if s.readUnspecified (locate addr) then Config.freeRead s.draws else s.readLoc (locate addr)

/-- A host read changes nothing (R66); what it returned is recorded for the observer (log 10). -/
def State.busRead (s : State) (addr : BitVec 16) : State :=
  { s with reads := ⟨addr, s.readWord addr⟩ :: s.reads }

/-- A write to a mapped word while BUSY = 0, other than CMD and STATUS (R61, R64): a read/write target takes the bits
its rule names; a read-only or reserved one ignores the write. -/
def State.writeLoc (s : State) (l : Loc) (v : Word) : State :=
  match l with
  | .gfA => { s with gfA := v.extractLsb' 0 8 }
  | .gfB => { s with gfB := v.extractLsb' 0 8 }
  | .rsLen => { s with rsLen := v.extractLsb' 0 8 }
  | .rsDeg => { s with rsDeg := v.extractLsb' 0 8 }
  | .textLen => { s with textLen := v.extractLsb' 0 8 }
  | .scale => { s with scale := v.extractLsb' 0 16 }
  | .pad => { s with pad := v.extractLsb' 0 16 }
  | .text i => { s with text := Memory.write s.text i.val (v.extractLsb' 0 8) }
  | .cw i => { s with cw := Memory.write s.cw i.val (v.extractLsb' 0 8) }
  | .id | .status | .cmd | .errInfo | .gfR | .outCount | .exp _ | .log _ | .gen _ | .matrix _ _ | .reserved => s

/-- A host write to CMD (spec/60_exceptions.md R250): accepted when READY = 1 and BUSY = 0, else dropped. -/
def State.offerCommand (s : State) (w : Word) : State :=
  if s.isReady ∧ ¬ s.isBusy then s.accept w else s.drop

/-- `MemWrite(addr, 4, v)` (R61): without effect while rst is asserted (spec/70_reset_and_hazards.md R270); STATUS
always takes the write (spec/10_state.md R31); while BUSY every other write is dropped (R280). -/
def State.busWrite (s : State) (addr : BitVec 16) (v : Word) : State :=
  if s.rst then s
  else
    match locate addr with
    | .status => s.writeStatus v
    | .cmd => s.offerCommand v
    | l => if s.isBusy then s.drop else s.writeLoc l v

end Sys2Proof.Machine
end

