-- ==== Sys2Proof/Machine/BitStream.lean ====
section
/-! DEFINITION. The bit-stream encoder (spec/42_bitstream.md): the seven steps from text bytes to 55 data codewords,
and ENCODE. -/

namespace Sys2Proof.Machine

/-- "append v as w bits": v[w−1], ..., v[0] (R152). -/
def msbBits {w : Nat} (v : BitVec w) : List Bool := (List.range w).map fun t => v.getLsbD (w - 1 - t)

/-- The byte whose bit 7 is the first of the bits (R154). -/
def byteOfBits (bits : List Bool) : Byte :=
  bits.foldl (fun acc b => (acc <<< 1) ||| (BitVec.ofBool b).setWidth 8) 0#8

/-- DATA_CAP in bits: 55 codewords (spec/00_scope.md R8). -/
def capacityBits : Nat := 440

/-- `need` (R151): 4 mode bits, 8 count bits, 8 bits a byte. -/
def neededBits (n : Nat) : Nat := 4 + 8 + 8 * n

/-- Steps 1 to 3 (R152): mode 0b0100, the count, the bytes, each most significant bit first. -/
def payloadBits (n : Byte) (bytes : List Byte) : List Bool :=
  msbBits 0b0100#4 ++ msbBits n ++ bytes.flatMap msbBits

/-- Step 4 (R153): min(4, 440 − len) zero bits. -/
def withTerminator (b : List Bool) : List Bool := b ++ List.replicate (min 4 (capacityBits - b.length)) false

/-- Step 5 (R154): zero bits up to the next byte boundary. -/
def withAlignment (b : List Bool) : List Bool := b ++ List.replicate ((8 - b.length % 8) % 8) false

/-- Step 6 (R154): bits into bytes, MSB first. -/
def packBits : List Bool → List Byte
  | b7 :: b6 :: b5 :: b4 :: b3 :: b2 :: b1 :: b0 :: rest =>
    byteOfBits [b7, b6, b5, b4, b3, b2, b1, b0] :: packBits rest
  | _ => []

/-- Step 7 (R155): 0xEC and 0x11 alternating, up to 55 codewords. -/
def withPads (c : List Byte) : List Byte :=
  c ++ (List.range (55 - c.length)).map fun j => if j % 2 = 0 then 0xEC#8 else 0x11#8

/-- The data codeword sequence C[0..54] (R152 to R155). -/
def dataCodewords (n : Byte) (bytes : List Byte) : List Byte :=
  withPads (packBits (withAlignment (withTerminator (payloadBits n bytes))))

/-- The body of ENCODE (R156): the capacity check first (R151, ERR_INFO = need), then CW[0..54] <- C. -/
def encodeStage (s : State) : Stage :=
  if neededBits s.opN > capacityBits then
    .ended (s.raise .capacityExceeded (BitVec.ofNat 32 (neededBits s.opN)))
  else .done { s with cw := Memory.writeList s.cw 0 (dataCodewords s.textLen (s.textPrefix s.opN)) }

/-- ENCODE (R156). -/
def execEncode (s : State) : Host.Outcome State Fault Refusal := .next (encodeStage s).finish

end Sys2Proof.Machine
end

