-- ==== Sys2Proof/Machine/Build.lean ====
section
/-! DEFINITION. The matrix builder (spec/43_matrix.md): the eight phases of BUILD in their strict order, each as its
rule states it. Computed coordinates are integers; a phase that must not leave the matrix checks them (R189). -/

namespace Sys2Proof.Machine

/-- A failed invariant check (R189): the phase, the row and the column. -/
structure BuildFault where
  /-- 3, 4, 5 or 7 -/
  phase : Nat
  /-- the row computed -/
  row : Int
  /-- the column computed -/
  col : Int
  deriving DecidableEq, Repr

/-- What a phase with checks leads to. -/
inductive Built where
  /-- the matrix after the phase -/
  | ok (m : ModuleMatrix)
  /-- a check failed -/
  | fault (f : BuildFault)
  deriving DecidableEq, Repr

/-- The next phase runs only after a phase that passed its checks. -/
def Built.andThen : Built → (ModuleMatrix → Built) → Built
  | .ok m, f => f m
  | .fault e, _ => .fault e

/-- An index 0..28 of the matrix, none outside. -/
def toIndex (i : Int) : Option (Fin 29) := if h : 0 ≤ i ∧ i < 29 then some ⟨i.toNat, by omega⟩ else none

/-- A coordinate inside the matrix, none outside. -/
def toCoord (r c : Int) : Option (Fin 29 × Fin 29) :=
  match toIndex r, toIndex c with
  | some r', some c' => some (r', c')
  | _, _ => none

/-- `check_bounds(ph, r, c)` (R189), then the use of the coordinate. -/
def checkedAt (ph : Nat) (r c : Int) (m : ModuleMatrix) (f : ModuleMatrix → Fin 29 → Fin 29 → ModuleMatrix) : Built :=
  match toCoord r c with
  | some (r', c') => .ok (f m r' c')
  | none => .fault ⟨ph, r, c⟩

/-- A list of coordinates, each checked and used in order. -/
def checkedAll (ph : Nat) (f : ModuleMatrix → Fin 29 → Fin 29 → ModuleMatrix) : List (Int × Int) → ModuleMatrix → Built
  | [], m => .ok m
  | (r, c) :: cs, m => (checkedAt ph r c m f).andThen (checkedAll ph f cs)

/-- The integers a, a + 1, ..., a + n − 1. -/
def intRange (a : Int) (n : Nat) : List Int := (List.range n).map fun i => a + (i : Int)

/-- Every (x, y) of two lists, x first. -/
def pairs (xs ys : List Int) : List (Int × Int) := xs.flatMap fun x => ys.map fun y => (x, y)

/-! ### Phases 1 to 4: function patterns -/

/-- The finder shape (R173): border, and 3 by 3 centre. -/
def finderDark (dr dc : Int) : Bool :=
  dr = 0 || dr = 6 || dc = 0 || dc = 6 || (2 ≤ dr && dr ≤ 4 && 2 ≤ dc && dc ≤ 4)

/-- Whether a finder offset is inside the 7 by 7 square; the others are its margin (R174). -/
def inFinderSquare (dr dc : Int) : Bool := 0 ≤ dr && dr ≤ 6 && 0 ≤ dc && dc ≤ 6

/-- FINDERS, the top-left corners of the finder squares, in order (R174). -/
def finderCorners : List (Int × Int) := [(0, 0), (0, 22), (22, 0)]

/-- One offset of one finder, where in-bounds (R174). -/
def finderCell (m : ModuleMatrix) (r0 c0 dr dc : Int) : ModuleMatrix :=
  match toCoord (r0 + dr) (c0 + dc) with
  | some (r, c) => m.set r c ⟨if inFinderSquare dr dc && finderDark dr dc then .dark else .light, true⟩
  | none => m

/-- Phase 1, finders (R174). -/
def phaseFinders (m : ModuleMatrix) : ModuleMatrix :=
  finderCorners.foldl
    (fun m z => (pairs (intRange (-1) 9) (intRange (-1) 9)).foldl (fun m d => finderCell m z.1 z.2 d.1 d.2) m) m

/-- A cell takes a value and the function flag where it is Unset (R175, R176: "only fills cells not already set"). -/
def fillUnset (m : ModuleMatrix) (r c : Fin 29) (v : Val) : ModuleMatrix :=
  if (m.get r c).val = .unset then m.set r c ⟨v, true⟩ else m

/-- Phase 2, timing (R175): row 6 and column 6, positions 8..20, Dark at even positions. -/
def phaseTiming (m : ModuleMatrix) : ModuleMatrix :=
  (List.finRange 13).foldl
    (fun m j =>
      let i : Fin 29 := ⟨8 + j.val, by omega⟩
      let v : Val := if i.val % 2 = 0 then .dark else .light
      fillUnset (fillUnset m 6 i v) i 6 v) m

/-- ALIGN_POS × ALIGN_POS (R176). -/
def alignCentres : List (Int × Int) := pairs [6, 22] [6, 22]

/-- The alignment pattern around an Unset centre (R176): Light at distance 1, Dark at 0 and 2. -/
def alignBlock (ar ac : Int) (m : ModuleMatrix) : Built :=
  checkedAll 3 (fun m r c =>
      let d := max ((r.val : Int) - ar).natAbs ((c.val : Int) - ac).natAbs
      fillUnset m r c (if d = 1 then .light else .dark))
    ((pairs (intRange (-2) 5) (intRange (-2) 5)).map fun d => (ar + d.1, ac + d.2)) m

/-- One centre (R176): checked, skipped where occupied. -/
def alignCentre (ar ac : Int) (m : ModuleMatrix) : Built :=
  match toCoord ar ac with
  | none => .fault ⟨3, ar, ac⟩
  | some (r, c) => if (m.get r c).val ≠ .unset then .ok m else alignBlock ar ac m

/-- Centres in order. -/
def alignAll : List (Int × Int) → ModuleMatrix → Built
  | [], m => .ok m
  | (ar, ac) :: cs, m => (alignCentre ar ac m).andThen (alignAll cs)

/-- Phase 3, alignment (R176). -/
def phaseAlignment (m : ModuleMatrix) : Built := alignAll alignCentres m

/-- The dark module (R177). -/
def darkModule : List (Int × Int) := [(21, 8)]

/-- The primary reserved bands (R178): positions 0..8 but 6 of row 8 and of column 8. -/
def primaryBand : List (Int × Int) := ((intRange 0 9).filter (· ≠ 6)).flatMap fun i => [(8, i), (i, 8)]

/-- The two fixed-dark cells (R179). -/
def fixedDark : List (Int × Int) := [(6, 8), (8, 6)]

/-- The secondary reserved band (R180). -/
def secondaryBand : List (Int × Int) :=
  (intRange 0 8).map (fun i => (8, 28 - i)) ++ (intRange 8 7).map fun i => (14 + i, 8)

/-- A cell takes the value with the function flag. -/
def putFunc (v : Val) (m : ModuleMatrix) (r c : Fin 29) : ModuleMatrix := m.set r c ⟨v, true⟩

/-- Phase 4, dark module and reserved bands (R177, R178, R179, R180, in this order). -/
def phaseReserve (m : ModuleMatrix) : Built :=
  (((checkedAll 4 (putFunc .dark) darkModule m).andThen
      (checkedAll 4 (putFunc .unset) primaryBand)).andThen
      (checkedAll 4 (putFunc .dark) fixedDark)).andThen
    (checkedAll 4 (putFunc .unset) secondaryBand)

/-- Phases 0 to 4 on no input: the function patterns, the same for every BUILD (R172, R191). -/
def functionPatterns : Built :=
  (phaseAlignment (phaseTiming (phaseFinders ModuleMatrix.allUnset))).andThen phaseReserve

/-! ### Phase 5: data placement -/

/-- The passes of the walk (R182): the right column of each pair and whether the pass goes upward. `fuel` bounds the
`while right >= 1`; 15 covers its 14 passes. -/
def walkPasses : Nat → Nat → Bool → List (Nat × Bool)
  | 0, _, _ => []
  | fuel + 1, right, upward =>
    if right < 1 then []
    else
      let right := if right = 6 then 5 else right
      (right, upward) :: walkPasses fuel (right - 2) (!upward)

/-- The cells of one pass (R182): row after row, the right column before the left. -/
def walkPass (right : Nat) (upward : Bool) : List (Int × Int) :=
  (List.range 29).flatMap fun step =>
    let r : Int := if upward then 28 - (step : Int) else step
    [(r, (right : Int)), (r, (right : Int) - 1)]

/-- The whole walk, from the bottom-right (R182). -/
def walkOrder : List (Fin 29 × Fin 29) :=
  ((walkPasses 15 28 true).flatMap fun p => walkPass p.1 p.2).filterMap fun rc => toCoord rc.1 rc.2

/-- The bit sequence S (R181): the codewords in order, each most significant bit first. -/
def placementBits (codewords : List Byte) : List Bool := codewords.flatMap msbBits

/-- The value of a data bit; a position beyond the bits is Light (R182, R183). -/
def bitVal : Option Bool → Val
  | some true => .dark
  | some false => .light
  | none => .light

/-- Phase 5 along a walk (R182, R183): cells with func = false take the next bit, after `check_unset` (R189). -/
def placeData : List (Fin 29 × Fin 29) → List Bool → ModuleMatrix → Built
  | [], _, m => .ok m
  | (r, c) :: cs, bits, m =>
    if (m.get r c).func = true then placeData cs bits m
    else if (m.get r c).val ≠ .unset then .fault ⟨5, r.val, c.val⟩
    else placeData cs bits.tail (m.set r c ⟨bitVal bits.head?, false⟩)

/-! ### Phases 6 and 7: masking and format information -/

/-- MASK(r, c) (spec/00_scope.md R8). -/
def maskAt (r c : Fin 29) : Bool := (r.val + c.val) % 2 = 0

/-- A module value XORed with 1 (R184): Light if it is Dark, else Dark. -/
def flipVal : Val → Val
  | .dark => .light
  | .light => .dark
  | .unset => .dark

/-- One cell of the masking (R184). -/
def maskCell (m : ModuleMatrix) (r c : Fin 29) : ModuleMatrix :=
  if (m.get r c).func = false ∧ maskAt r c = true then m.set r c ⟨flipVal (m.get r c).val, false⟩ else m

/-- Phase 6, masking (R184). -/
def phaseMask (m : ModuleMatrix) : ModuleMatrix := allCells.foldl (fun m p => maskCell m p.1 p.2) m

/-- FMT_DATA (R185). -/
def fmtData : BitVec 15 := 0b01000#15

/-- BCH_GEN, degree 10 (R185). -/
def bchGen : BitVec 15 := 0b10100110111#15

/-- FMT_XOR (R185). -/
def fmtXor : BitVec 15 := 0b101010000010010#15

/-- The division by BCH_GEN (R185): bits 14 down to 10 of v are cleared; what is left is check[9:0]. -/
def bchCheck (v : BitVec 15) : BitVec 15 :=
  [14, 13, 12, 11, 10].foldl (fun v i => if v.getLsbD i then v ^^^ (bchGen <<< (i - 10)) else v) v

/-- The format word F (R185): ((d << 10) OR check) XOR FMT_XOR. -/
def formatWord : BitVec 15 := ((fmtData <<< 10) ||| bchCheck (fmtData <<< 10)) ^^^ fmtXor

/-- P[0..14], the primary copy (R186). -/
def primaryCoords : List (Int × Int) :=
  [(0, 8), (1, 8), (2, 8), (3, 8), (4, 8), (5, 8), (7, 8), (8, 8),
   (8, 7), (8, 5), (8, 4), (8, 3), (8, 2), (8, 1), (8, 0)]

/-- Q[0..14], the secondary copy (R187). -/
def secondaryCoords : List (Int × Int) :=
  [(8, 28), (8, 27), (8, 26), (8, 25), (8, 24), (8, 23), (8, 22), (8, 21),
   (22, 8), (23, 8), (24, 8), (25, 8), (26, 8), (27, 8), (28, 8)]

/-- Bit i of F at P[i], then at Q[i], for the bits and coordinates that are left (R188). -/
def placeFormat : List Bool → List (Int × Int) → List (Int × Int) → ModuleMatrix → Built
  | b :: bs, p :: ps, q :: qs, m =>
    ((checkedAt 7 p.1 p.2 m (putFunc (bitVal (some b)))).andThen fun m =>
      checkedAt 7 q.1 q.2 m (putFunc (bitVal (some b)))).andThen (placeFormat bs ps qs)
  | _, _, _, m => .ok m

/-- F[0], ..., F[14]. -/
def formatBits : List Bool := (List.range 15).map fun i => formatWord.getLsbD i

/-- Phase 7, the overlay (R188). -/
def phaseFormat (m : ModuleMatrix) : Built := placeFormat formatBits primaryCoords secondaryCoords m

/-! ### BUILD -/

/-- Phases 0 to 7 on 70 codewords (R171). -/
def buildMatrix (codewords : List Byte) : Built :=
  (functionPatterns.andThen (placeData walkOrder (placementBits codewords))).andThen fun m => phaseFormat (phaseMask m)

/-- The ERR_INFO of a failed check (R189, spec/60_exceptions.md R243 origin 0x2): {0x2, phase, 0x00, row, column}. -/
def BuildFault.info (f : BuildFault) : Word :=
  0x2#4 ++ BitVec.ofNat 4 f.phase ++ 0x00#8 ++ BitVec.ofInt 8 f.row ++ BitVec.ofInt 8 f.col

/-- MATRIX after a failed check: unspecified, every cell a free value (spec/93_implementation_defined.md I6, log 8). -/
def State.freeMatrix (s : State) : ModuleMatrix :=
  Vector.ofFn fun r => Vector.ofFn fun c => Config.freeCell s.draws r.val c.val

/-- The body of BUILD (R171): MATRIX from CW[0..69]. -/
def buildStage (s : State) : Stage :=
  match buildMatrix (s.cwPrefix 70) with
  | .ok m => .done { s with matrix := m }
  | .fault f => .ended (State.raise { s with matrix := s.freeMatrix } .internalInvariant f.info)

/-- BUILD (R171). -/
def execBuild (s : State) : Host.Outcome State Fault Refusal := .next (buildStage s).finish

end Sys2Proof.Machine
end

