-- ==== Sys2Proof/Machine/ReedSolomon.lean ====
section
/-! DEFINITION. The Reed-Solomon coder (spec/41_reed_solomon.md): generator polynomials, remainders, RS_GEN and
RS_REM. A polynomial is the list of its coefficients, most significant first, never trimmed (R130). -/

namespace Sys2Proof.Machine

/-- `r[n] <- r[n] XOR v` (field addition is XOR, spec/40_gf_arith.md R116). -/
def xorAt : List Byte → Nat → Byte → List Byte
  | [], _, _ => []
  | a :: r, 0, v => (a ^^^ v) :: r
  | a :: r, n + 1, v => a :: xorAt r n v

/-- Field-convolution (R131): length m + n − 1, position i + j accumulates p[i]·q[j]. -/
def polymul (t : Tables) (p q : List Byte) : List Byte :=
  (List.range p.length).foldl
    (fun r i =>
      (List.range q.length).foldl (fun r j => xorAt r (i + j) (gmul t (p.getD i 0#8) (q.getD j 0#8))) r)
    (List.replicate (p.length + q.length - 1) 0#8)

/-- `generator(k)` (R132): the product of (x + EXP[i]) for i in [0, k). -/
def generator (t : Tables) (k : Nat) : List Byte :=
  (List.range k).foldl (fun g i => polymul t g [0x01#8, t.expAt i]) [0x01#8]

/-- Position `i` of the long division (R133): if the leading coefficient c = W[i] is not 0, g scaled by c is XORed
into W at offset i. -/
def divStep (t : Tables) (g : List Byte) (w : List Byte) (i : Nat) : List Byte :=
  let c := w.getD i 0#8
  if c = 0#8 then w
  else (List.range g.length).foldl (fun w j => xorAt w (i + j) (gmul t (g.getD j 0#8) c)) w

/-- `remainder(D, k)` (R133): D extended with k zeros is divided from the start; the last k entries are the result. -/
def remainder (t : Tables) (d : List Byte) (k : Nat) : List Byte :=
  ((List.range d.length).foldl (divStep t (generator t k)) (d ++ List.replicate k 0#8)).drop d.length

/-- GEN[0..k] <- g, GEN[k+1..32] <- 0 (R134). -/
@[irreducible] def genOf (g : List Byte) : Vector Byte 33 := Vector.ofFn fun j : Fin 33 => g.getD j.val 0#8

/-- The ERR_INFO of OPERAND_RANGE, {0x0000, L, k} (spec/60_exceptions.md R247). -/
def State.rangeInfo (s : State) : Word := 0#16 ++ s.rsLen ++ s.rsDeg

/-- The body of RS_GEN (R134). K_MAX = 32. -/
def rsGenStage (s : State) : Stage :=
  if s.opK > 32 then .ended (s.raise .operandRange s.rangeInfo)
  else .done { s with gen := genOf (generator s.tables s.opK) }

/-- Degree-k coding of the data CW[0..L−1] (R135): GEN <- generator(k), CW[L..L+k−1] <- the remainder. -/
def State.rsCode (s : State) (l k : Nat) : State :=
  { s with
    gen := genOf (generator s.tables k)
    cw := Memory.writeList s.cw l (remainder s.tables (s.cwPrefix l) k) }

/-- The body of RS_REM (R135). K_MAX = 32, CW_CAP = 128. -/
def rsRemStage (s : State) : Stage :=
  if s.opK > 32 ∨ s.opL + s.opK > 128 then .ended (s.raise .operandRange s.rangeInfo)
  else .done (s.rsCode s.opL s.opK)

/-- RS_GEN (R134). -/
def execRsGen (s : State) : Host.Outcome State Fault Refusal := .next (rsGenStage s).finish

/-- RS_REM (R135). -/
def execRsRem (s : State) : Host.Outcome State Fault Refusal := .next (rsRemStage s).finish

end Sys2Proof.Machine
end

