-- ==== Sys2Proof/Machine/Render.lean ====
section
/-! DEFINITION. The vector exporter (spec/44_render.md): the checks, the document's bytes, the document stream port,
and RENDER. -/

namespace Sys2Proof.Machine

/-! ### Checks -/

/-- The ERR_INFO of INVALID_DIMENSION (R211): bit 0 when scale ≤ 0, bit 1 when padding < 0; 0 when both are legal. -/
def dimensionError (scale pad : Int) : Word :=
  (if scale ≤ 0 then 1#32 else 0#32) ||| (if pad < 0 then 2#32 else 0#32)

/-- The first Unset cell in row-major order (R216). -/
def firstUnset (m : ModuleMatrix) : Option (Fin 29 × Fin 29) :=
  allCells.find? fun p => (m.get p.1 p.2).val = .unset

/-- The ERR_INFO of MATRIX_INCOMPLETE (R216): {0x0000, r, c}. -/
def coordInfo (r c : Fin 29) : Word := 0#16 ++ BitVec.ofNat 8 r.val ++ BitVec.ofNat 8 c.val

/-! ### The document -/

/-- ASCII bytes of characters (R213). -/
def ascii (cs : List Char) : List Byte := cs.map fun c => BitVec.ofNat 8 c.toNat

/-- LF, 0x0A (R213). -/
def lf : Byte := 0x0A#8

/-- The digits of v, least significant first, in at most `fuel` digits. -/
def digitsRev : Nat → Nat → List Byte
  | 0, _ => []
  | fuel + 1, v =>
    BitVec.ofNat 8 (0x30 + v % 10) :: (if v / 10 = 0 then [] else digitsRev fuel (v / 10))

/-- `dec(v)` (R214): decimal digits, most significant first, no leading zeros; dec(0) is one digit. -/
def dec (v : Nat) : List Byte := (digitsRev (v + 1) v).reverse

/-- A space, a name, an equals sign and a value between double quotes (0x22), as R213 writes every attribute. -/
def attr (name : List Char) (value : List Byte) : List Byte :=
  ascii (' ' :: name) ++ [0x3D#8, 0x22#8] ++ value ++ [0x22#8]

/-- C = 29·s + 2·p (R212). -/
def canvas (s p : Nat) : Nat := 29 * s + 2 * p

/-- The SVG namespace (R213). -/
def svgNamespace : List Char :=
  ['h', 't', 't', 'p', ':', '/', '/', 'w', 'w', 'w', '.', 'w', '3', '.', 'o', 'r', 'g'] ++
  ['/', '2', '0', '0', '0', '/', 's', 'v', 'g']

/-- The header line (R213). -/
def docHeader (c : Nat) : List Byte :=
  ascii ['<', 's', 'v', 'g'] ++ attr ['x', 'm', 'l', 'n', 's'] (ascii svgNamespace) ++
  attr ['w', 'i', 'd', 't', 'h'] (dec c) ++ attr ['h', 'e', 'i', 'g', 'h', 't'] (dec c) ++
  attr ['v', 'i', 'e', 'w', 'B', 'o', 'x'] (ascii ['0', ' ', '0', ' '] ++ dec c ++ ascii [' '] ++ dec c) ++
  ascii ['>'] ++ [lf]

/-- A rectangle element with its position, its side and its fill (R213). -/
def rectLine (x y side : Nat) (fill : List Char) : List Byte :=
  ascii ['<', 'r', 'e', 'c', 't'] ++ attr ['x'] (dec x) ++ attr ['y'] (dec y) ++
  attr ['w', 'i', 'd', 't', 'h'] (dec side) ++ attr ['h', 'e', 'i', 'g', 'h', 't'] (dec side) ++
  attr ['f', 'i', 'l', 'l'] (ascii fill) ++ ascii ['/', '>'] ++ [lf]

/-- The background line (R213). -/
def docBackground (c : Nat) : List Byte := rectLine 0 0 c ['w', 'h', 'i', 't', 'e']

/-- rect(r, c) (R213): at x = p + c·s, y = p + r·s, side s. -/
def docRect (s p : Nat) (r c : Fin 29) : List Byte :=
  rectLine (p + c.val * s) (p + r.val * s) s ['b', 'l', 'a', 'c', 'k']

/-- The trailer line (R213). -/
def docTrailer : List Byte := ascii ['<', '/', 's', 'v', 'g', '>'] ++ [lf]

/-- The rectangle of a Dark cell, nothing for another (R215). -/
def cellRect (m : ModuleMatrix) (s p : Nat) (rc : Fin 29 × Fin 29) : List Byte :=
  if (m.get rc.1 rc.2).val = .dark then docRect s p rc.1 rc.2 else []

/-- `document(M, s, p)` (R213): header, background, one rectangle per Dark cell in row-major order (R215), trailer. -/
def document (m : ModuleMatrix) (s p : Nat) : List Byte :=
  docHeader (canvas s p) ++ docBackground (canvas s p) ++ allCells.flatMap (cellRect m s p) ++ docTrailer

/-! ### The document stream port (R217 to R220) -/

/-- The byte on the port with its marks (R217, R218); none when doc_valid = 0. -/
def State.docOffer (s : State) : Option DocByte :=
  match s.seq with
  | .stream p => some ⟨p.offered, decide (p.pos = 0), p.rest.isEmpty⟩
  | .init _ | .initFailed | .idle | .busy _ => none

/-- doc_valid (R217). -/
def State.docValid (s : State) : Bool := s.docOffer.isSome

/-- The core starts to offer a document (R221): its first byte with nothing transferred; an empty sequence of bytes,
which no document is, would end the command. -/
def State.startStream (s : State) (doc : List Byte) : State :=
  match doc with
  | [] => s.endCommand
  | b :: bs => { s with seq := .stream ⟨0, b, bs⟩ }

/-- The offered byte is transferred (R217, R220): OUT_COUNT counts it, and the next byte is offered, or the command
ends with the last (R221, R253). -/
def State.transfer (s : State) (p : RenderPos) : State :=
  { s with
    outCount := s.outCount + 1#32
    sent := ⟨p.offered, decide (p.pos = 0), p.rest.isEmpty⟩ :: s.sent
    seq :=
      match p.rest with
      | [] => .idle
      | b :: bs => .stream ⟨p.pos + 1, b, bs⟩ }

/-- A cycle of the sink (R217, R219): while streaming, doc_err fails the render with ERR_INFO = OUT_COUNT whatever
doc_ready is; else doc_ready transfers the byte; else the port holds. Outside a streaming render nothing happens. -/
def State.sinkCycle (s : State) (ready err : Bool) : State :=
  match s.seq with
  | .stream p =>
    if err then s.raise .ioFailure s.outCount
    else if ready then s.transfer p
    else s
  | .init _ | .initFailed | .idle | .busy _ => s

/-! ### RENDER -/

/-- RENDER without its first line (R221, R231 stage 4): the dimension check, the completeness check, then the
document is offered. -/
def State.renderStage (s : State) : State :=
  if dimensionError s.opScale s.opPad ≠ 0#32 then
    s.raise .invalidDimension (dimensionError s.opScale s.opPad)
  else
    match firstUnset s.matrix with
    | some (r, c) => s.raise .matrixIncomplete (coordInfo r c)
    | none => s.startStream (document s.matrix s.opScale.toNat s.opPad.toNat)

/-- RENDER (R221): OUT_COUNT <- 0, the checks, and the first byte of the document is on the port. The bytes leave in
later steps, one per transfer, each step asking the sink (spec/00_scope.md R11). -/
def execRender (s : State) : Host.Outcome State Fault Refusal :=
  .next (State.renderStage { s with outCount := 0#32 })

end Sys2Proof.Machine
end

