-- ==== Sys2Proof/Machine/Pipeline.lean ====
section
/-! DEFINITION. Pipeline sequencing (spec/45_pipeline.md): NOP and RUN. -/

namespace Sys2Proof.Machine

/-- NOP (R230): acceptance and end only. -/
def execNop (s : State) : Host.Outcome State Fault Refusal := .next s.endCommand

/-- RUN's stage 2 (R231): degree 15 on the 55 data codewords, whatever RS_LEN and RS_DEG hold. -/
def runCodeStage (s : State) : Stage := .done (s.rsCode 55 15)

/-- RUN's stages 1 to 3 (R231), stopping at the first error. -/
def runStages (s : State) : Stage := ((encodeStage s).andThen runCodeStage).andThen buildStage

/-- RUN (R231): OUT_COUNT <- 0, stages 1 to 3, then stage 4, which offers the document. -/
def State.runPipeline (s : State) : State :=
  match runStages { s with outCount := 0#32 } with
  | .ended t => t
  | .done t => t.renderStage

/-- RUN (R231). -/
def execRun (s : State) : Host.Outcome State Fault Refusal := .next s.runPipeline

end Sys2Proof.Machine
end

