-- ==== Sys2Proof/Machine/Dispatch.lean ====
section
/-! DEFINITION. The dispatch of a decoded command to its meaning (spec/30_encoding.md R97): one arm per command, each
one call. `exec i s` is what the core does with the accepted command `i` in the state `s`. -/

namespace Sys2Proof.Machine

def exec (i : Instr) (s : State) : Host.Outcome State Fault Refusal :=
  match i with
  | .nop => Sys2Proof.Machine.execNop s
  | .gfMul => Sys2Proof.Machine.execGfMul s
  | .rsGen => Sys2Proof.Machine.execRsGen s
  | .rsRem => Sys2Proof.Machine.execRsRem s
  | .encode => Sys2Proof.Machine.execEncode s
  | .build => Sys2Proof.Machine.execBuild s
  | .render => Sys2Proof.Machine.execRender s
  | .run => Sys2Proof.Machine.execRun s

end Sys2Proof.Machine
end

