-- ==== Sys2Proof/Machine/Sequencer.lean ====
section
/-! DEFINITION. The moves of the agents (spec/00_scope.md R10): a turn of the core sequencer, and an event of the
outside world. -/

namespace Sys2Proof.Machine

/-- The core decodes and runs the accepted word (spec/30_encoding.md R97): an illegal word ends the command with
ILLEGAL_COMMAND, ERR_INFO = the word (R96, spec/60_exceptions.md R246). -/
def runAccepted (w : Word) (s : State) : Host.Outcome State Fault Refusal :=
  match decode w with
  | .ok i => exec i s
  | .error _ => .next (s.raise .illegalCommand w)

/-- A turn of the core: nothing while rst is asserted (spec/70_reset_and_hazards.md R270); a turn of table
initialisation (R273); the accepted command; else nothing: INIT_FAILED stays (spec/60_exceptions.md R249), an idle
core keeps everything (R261), and a streaming one holds its byte until the sink moves (spec/44_render.md R217). -/
def coreTurn (s : State) : Host.Outcome State Fault Refusal :=
  if s.rst then .next s
  else
    match s.seq with
    | .init p => .next (s.initStep p)
    | .busy w => runAccepted w s
    | .initFailed | .idle | .stream _ => .next s

/-- One event. The sink's lines do nothing while rst is asserted, since no byte is offered then (R270). -/
def handleInput (e : Input) (s : State) : Host.Outcome State Fault Refusal :=
  match e with
  | .core => coreTurn s
  | .read addr => .next (s.busRead addr)
  | .write addr v => .next (s.busWrite addr v)
  | .sink ready err => .next (if s.rst then s else s.sinkCycle ready err)
  | .reset true => .next s.assertReset
  | .reset false => .next s.deassertReset

/-- A step: the outside world's next move, or, when it makes none, a turn of the core (log 1, log 16). -/
def stepOf (s : State) : Host.Outcome State Fault Refusal :=
  match s.inputs with
  | [] => coreTurn s.tick
  | e :: _ => handleInput e s.tick

/-- The state in which the command word `w` has been accepted: rst low, the tables built, the core idle, then
acceptance (spec/60_exceptions.md R250), and the next turn the core's (log 3). -/
def State.withAccepted (s : State) (w : Word) : State :=
  { State.accept { s with rst := false, seq := .idle, tables := builtTables } w with inputs := .core :: s.inputs }

end Sys2Proof.Machine
end

