-- ==== Sys2Proof/Machine/Step.lean ====
section
/-! DEFINITION. One step of the machine, and the state whose next step runs a given command word. -/

namespace Sys2Proof.Machine

/-- One step (spec/00_scope.md R10, R11): `stepOf` of Machine/Sequencer.lean. -/
def step (s : State) : Host.Outcome State Fault Refusal := Sys2Proof.Machine.stepOf s

/-- `s` with the command the opcode table numbers as `w` placed where the core takes its next command: accepted, and
the core's turn next (log 3). -/
def State.withFetchWord (s : State) (nbits w : Nat) : State :=
  Sys2Proof.Machine.State.withAccepted s (Sys2Proof.tableWord nbits w)

end Sys2Proof.Machine
end

