-- ==== Sys2Proof/Safety.lean ====
section
/-! DEFINITION. What counts as a sound state, in the terms the claims use: the invariants every step keeps
(spec/10_state.md R54 and the rules each definition names). -/

namespace Sys2Proof.Machine

/-- Both RAMs are in canonical form: indexes strictly rising, TEXT below 256, CW below 128 (R43, R44). -/
abbrev RamsCanonical (s : State) : Prop := Memory.wf 256 s.text ∧ Memory.wf 128 s.cw

/-- The position and the tables after `n` turns of the table construction from reset (spec/40_gf_arith.md R111),
none if a check has failed or the construction is over. -/
def initReached : Nat → Option (InitPos × Tables)
  | 0 => some (InitPos.start, Tables.reset)
  | n + 1 =>
    match initReached n with
    | none => none
    | some (p, t) =>
      match initTurn p t with
      | .more p' t' => some (p', t')
      | .failed _ _ | .complete _ => none

/-- Initialisation is on its one course and cannot have failed, and READY = 1 means that EXP and LOG hold the tables
(spec/60_exceptions.md R249, spec/70_reset_and_hazards.md R274). The course starts from the zeros of Tables.reset, the
model's choice (log 7). -/
def TablesSound (s : State) : Prop :=
  match s.seq with
  | .init p => initReached p.i.val = some (p, s.tables)
  | .initFailed => False
  | .idle | .busy _ | .stream _ => s.tables = builtTables

/-- During initialisation (spec/10_state.md R55) and while a command runs no error is reported, and LAST_CMD names the
running command (spec/60_exceptions.md R250, R253). -/
def StatusSound (s : State) : Prop :=
  match s.seq with
  | .init _ => s.errCode = .noError ∧ s.errInfo = 0#32
  | .busy w => s.errCode = .noError ∧ s.errInfo = 0#32 ∧ s.lastCmd = opcOf w
  | .stream _ => s.errCode = .noError ∧ s.errInfo = 0#32 ∧ (s.lastCmd = 0x06#8 ∨ s.lastCmd = 0x07#8)
  | .initFailed | .idle => True

/-- Every cell of the matrix has a module value (spec/10_state.md R54 (4)). -/
def MatrixComplete (m : ModuleMatrix) : Prop := ∀ r c, (m.get r c).val ≠ .unset

/-- MATRIX is as reset allocates it, or complete (spec/10_state.md R45, R54 (4), spec/44_render.md R216). -/
def MatrixSound (s : State) : Prop := s.matrix = ModuleMatrix.allUnset ∨ MatrixComplete s.matrix

/-- The bytes of a document with their marks: doc_first on the first, doc_last on the last (spec/44_render.md
R218). -/
def docFrames (d : List Byte) : List DocByte :=
  d.mapIdx fun i b => ⟨b, decide (i = 0), decide (i + 1 = d.length)⟩

/-- The document RENDER emits in this state (spec/44_render.md R213). -/
def State.doc (s : State) : List Byte := document s.matrix s.opScale.toNat s.opPad.toNat

/-- While a document streams, the operands are legal, the bytes the sink has taken since the render began are the
first `pos` of the document with their marks, the offered byte and the rest are what remains of it, and OUT_COUNT is
`pos` (spec/44_render.md R217, R218, R220). -/
def StreamSound (s : State) : Prop :=
  match s.seq with
  | .stream p =>
    0 < s.opScale ∧ 0 ≤ s.opPad ∧ s.outCount = BitVec.ofNat 32 p.pos ∧
      (s.sent.take p.pos).reverse = (docFrames s.doc).take p.pos ∧ s.doc.drop p.pos = p.offered :: p.rest
  | .init _ | .initFailed | .idle | .busy _ => True

/-- All of them. -/
def SoundState (s : State) : Prop :=
  RamsCanonical s ∧ TablesSound s ∧ StatusSound s ∧ MatrixSound s ∧ StreamSound s

end Sys2Proof.Machine
end

