-- ==== Sys2Proof/Certificates/Slice0/Obligations.lean ====
section
/-! DEFINITION. The statements for the provers, each about the machine and from the numbered rules of spec/, and the
spec-side formulas they are stated with (namespace Sys2Proof.Claims). `s.tick` is `s` with its next outside move
taken off the list and its step numbered: the only difference every step makes to the model's own fields `inputs`
and `draws` (logs 1 and 6). -/

namespace Sys2Proof.Claims

open Sys2Proof.Machine

/-- The outside world's next move is `e`. -/
abbrev NextInput (s : State) (e : Input) : Prop := ∃ es, s.inputs = e :: es

/-- The next turn is the core's. -/
abbrev CoreNext (s : State) : Prop := s.inputs = [] ∨ NextInput s .core

/-- The state after a host read of `a` that returned `v`: nothing has changed but the record of reads. -/
abbrev answered (s : State) (a : BitVec 16) (v : Word) : State := { s.tick with reads := ⟨a, v⟩ :: s.reads }

/-- The word address of a byte address: bits [1:0] are ignored (spec/20_memory.md R62). -/
abbrev wordAddr (a : BitVec 16) : BitVec 16 := a &&& 0xFFFC#16

/-- The registers of spec/20_memory.md R64 and what a read returns; entries and their unused bits as R30 to R48
say. -/
def registerValues (s : State) : List (BitVec 16 × Word) :=
  [(0x0000#16, 0x5152031D#32), (0x0004#16, s.statusWord), (0x0008#16, 0#32), (0x000C#16, s.errInfo),
   (0x0010#16, s.gfA.setWidth 32), (0x0014#16, s.gfB.setWidth 32), (0x0018#16, s.gfR.setWidth 32),
   (0x001C#16, s.rsLen.setWidth 32), (0x0020#16, s.rsDeg.setWidth 32), (0x0024#16, s.textLen.setWidth 32),
   (0x0028#16, s.scale.setWidth 32), (0x002C#16, s.pad.setWidth 32), (0x0030#16, s.outCount)]

/-- The operand registers of R64 and the state a performed write of `v` leaves, from the state `t`. -/
def operandWrites (t : State) (v : Word) : List (BitVec 16 × State) :=
  [(0x0010#16, { t with gfA := v.extractLsb' 0 8 }), (0x0014#16, { t with gfB := v.extractLsb' 0 8 }),
   (0x001C#16, { t with rsLen := v.extractLsb' 0 8 }), (0x0020#16, { t with rsDeg := v.extractLsb' 0 8 }),
   (0x0024#16, { t with textLen := v.extractLsb' 0 8 }), (0x0028#16, { t with scale := v.extractLsb' 0 16 }),
   (0x002C#16, { t with pad := v.extractLsb' 0 16 })]

/-- The reserved addresses of R64, the MATRIX slots of columns 29 to 31 among them. -/
def IsReserved (a : BitVec 16) : Prop :=
  let n := (wordAddr a).toNat
  (0x0034 ≤ n ∧ n ≤ 0x0FFC) ∨ (0x1C84 ≤ n ∧ n ≤ 0x1FFC) ∨ (0x2600 ≤ n ∧ n ≤ 0x2FFC) ∨
    (0x3000 ≤ n ∧ n ≤ 0x3E7C ∧ 29 ≤ (n - 0x3000) / 4 % 32) ∨ 0x3E80 ≤ n

/-- The read-only registers and windows of R64, but for STATUS, whose bit 3 is writable. -/
def IsReadOnly (a : BitVec 16) : Prop :=
  let n := (wordAddr a).toNat
  n = 0x0000 ∨ n = 0x000C ∨ n = 0x0018 ∨ n = 0x0030 ∨ (0x1000 ≤ n ∧ n ≤ 0x1C80) ∨
    (0x3000 ≤ n ∧ n ≤ 0x3E7C ∧ (n - 0x3000) / 4 % 32 < 29)

/-- STATUS.READY as the host reads it. -/
abbrev ReadyBit (s : State) : Prop := s.statusWord.getLsbD 1 = true

/-- STATUS.BUSY as the host reads it. -/
abbrev BusyBit (s : State) : Prop := s.statusWord.getLsbD 0 = true

/-- Carry-less multiplication of `a` and `b`, a polynomial of degree at most 14. -/
def clmul (a b : Byte) : BitVec 16 :=
  (List.range 8).foldl (fun v i => if a.getLsbD i then v ^^^ (b.setWidth 16 <<< i) else v) 0#16

/-- Reduction modulo 0x11D, from degree 14 down to degree 8. -/
def reduce11D (v : BitVec 16) : Byte :=
  ([14, 13, 12, 11, 10, 9, 8].foldl (fun v i => if v.getLsbD i then v ^^^ (0x11D#16 <<< (i - 8)) else v) v).setWidth 8

/-- The byte {a[3:0], b[7:4]}. -/
def splice (a b : Byte) : Byte := a.extractLsb' 0 4 ++ b.extractLsb' 4 4

/-- The closed form of the data codewords (spec/42_bitstream.md R154, R155): with s[0] = n, s[1..n] the text bytes
and s[n+1] = 0, C[0] = {0x4, n[7:4]}, C[j] = {s[j−1][3:0], s[j][7:4]}, then 53 − n pads 0xEC, 0x11, ... -/
def closedForm (n : Byte) (bytes : List Byte) : List Byte :=
  splice 0x04#8 n :: List.zipWith splice (n :: bytes) (bytes ++ [0x00#8]) ++
    (List.range (53 - n.toNat)).map fun j => if j % 2 = 0 then 0xEC#8 else 0x11#8

/-- The value at `x` of a polynomial over the built tables, its coefficients most significant first
(spec/41_reed_solomon.md R130), by Horner's rule. -/
def evalPoly (p : List Byte) (x : Byte) : Byte := p.foldl (fun acc c => gmul builtTables acc x ^^^ c) 0x00#8

/-- The function cells (spec/43_matrix.md R174 to R180): a finder with its margin and the format cells beside it in
three corners, row 6, column 6, and the alignment pattern. -/
abbrev IsFunctionCell (r c : Nat) : Prop :=
  (r ≤ 8 ∧ c ≤ 8) ∨ (r ≤ 8 ∧ 21 ≤ c) ∨ (21 ≤ r ∧ c ≤ 8) ∨ r = 6 ∨ c = 6 ∨ (20 ≤ r ∧ r ≤ 24 ∧ 20 ≤ c ∧ c ≤ 24)

/-- One pass of the walk (spec/43_matrix.md R182): rows `rows`, and in each the right column before the left. -/
def passCells (rows : List (Fin 29)) (right left : Fin 29) : List (Fin 29 × Fin 29) :=
  rows.flatMap fun r => [(r, right), (r, left)]

/-- The 14 passes of spec/43_matrix.md R182: column pairs (28,27), (26,25), ..., (8,7), (5,4), (3,2), (1,0), upward on
the 1st, 3rd, ..., 13th and downward on the others. -/
def zigzag : List (Fin 29 × Fin 29) :=
  let down := List.finRange 29
  let up := down.reverse
  passCells up 28 27 ++ passCells down 26 25 ++ passCells up 24 23 ++ passCells down 22 21 ++ passCells up 20 19 ++
    passCells down 18 17 ++ passCells up 16 15 ++ passCells down 14 13 ++ passCells up 12 11 ++ passCells down 10 9 ++
    passCells up 8 7 ++ passCells down 5 4 ++ passCells up 3 2 ++ passCells down 1 0

/-- The non-function cells in the order of the passes, written from R182 apart from the model's walk. -/
def dataCells : List (Fin 29 × Fin 29) :=
  zigzag.filter fun p => ¬ IsFunctionCell p.1.val p.2.val

/-- S[k], bit 7 − k mod 8 of codeword k div 8 (spec/43_matrix.md R181); 0 beyond the 560 bits (R183). -/
def dataBit (codewords : List Byte) (k : Nat) : Bool := (codewords.getD (k / 8) 0#8).getLsbD (7 - k % 8)

/-- P[0..14] (spec/43_matrix.md R186). -/
def primaryCells : List (Fin 29 × Fin 29) :=
  [(0, 8), (1, 8), (2, 8), (3, 8), (4, 8), (5, 8), (7, 8), (8, 8), (8, 7), (8, 5), (8, 4), (8, 3), (8, 2), (8, 1),
   (8, 0)]

/-- Q[0..14] (spec/43_matrix.md R187). -/
def secondaryCells : List (Fin 29 × Fin 29) :=
  [(8, 28), (8, 27), (8, 26), (8, 25), (8, 24), (8, 23), (8, 22), (8, 21), (22, 8), (23, 8), (24, 8), (25, 8),
   (26, 8), (27, 8), (28, 8)]

/-- Dark or Light by a bit. -/
def moduleOf (b : Bool) : Val := if b then .dark else .light

/-- The number decimal digits stand for. -/
def decimalValue (ds : List Byte) : Nat := ds.foldl (fun acc b => 10 * acc + (b.toNat - 0x30)) 0

/-- `dig(v)` (spec/44_render.md R214). -/
def dig (v : Nat) : Nat := (dec v).length

/-- The ASCII bytes of a text (spec/44_render.md R213). -/
def textBytes (t : String) : List Byte := t.toList.map fun ch => BitVec.ofNat 8 ch.toNat

/-- `header` of spec/44_render.md R213, for a canvas of side `c`. -/
def headerBytes (c : Nat) : List Byte :=
  textBytes "<svg xmlns=\"http://www.w3.org/2000/svg\" width=\"" ++ dec c ++ textBytes "\" height=\"" ++ dec c ++
    textBytes "\" viewBox=\"0 0 " ++ dec c ++ textBytes " " ++ dec c ++ textBytes "\">\n"

/-- `background` of spec/44_render.md R213. -/
def backgroundBytes (c : Nat) : List Byte :=
  textBytes "<rect x=\"0\" y=\"0\" width=\"" ++ dec c ++ textBytes "\" height=\"" ++ dec c ++
    textBytes "\" fill=\"white\"/>\n"

/-- `rect(r, c)` of spec/44_render.md R213. -/
def rectBytes (s p r c : Nat) : List Byte :=
  textBytes "<rect x=\"" ++ dec (p + c * s) ++ textBytes "\" y=\"" ++ dec (p + r * s) ++ textBytes "\" width=\"" ++
    dec s ++ textBytes "\" height=\"" ++ dec s ++ textBytes "\" fill=\"black\"/>\n"

/-- `document(M, s, p)` of spec/44_render.md R213, with the rectangles of the Dark cells row by row and, in a row,
column by column (R215), and the canvas C = 29·s + 2·p (R212). -/
def documentBytes (m : ModuleMatrix) (s p : Nat) : List Byte :=
  headerBytes (29 * s + 2 * p) ++ backgroundBytes (29 * s + 2 * p) ++
    ((List.finRange 29).flatMap fun r => (List.finRange 29).flatMap fun c =>
      if (m.get r c).val = .dark then rectBytes s p r.val c.val else []) ++
    textBytes "</svg>\n"

/-- The length of `rect(r, c)` (spec/44_render.md R222). -/
def rectLength (s p : Nat) (rc : Fin 29 × Fin 29) : Nat :=
  50 + dig (p + rc.2.val * s) + dig (p + rc.1.val * s) + 2 * dig s

/-- The cells of CW command `i` may write from `s` (spec/30_encoding.md R95). -/
def WritesCw (i : Instr) (s : State) (a : Nat) : Prop :=
  match i with
  | .encode => a < 55
  | .rsRem => s.opL ≤ a ∧ a < s.opL + s.opK
  | .run => a < 70
  | .nop | .gfMul | .rsGen | .build | .render => False

end Sys2Proof.Claims

open Sys2Proof Sys2Proof.Machine Sys2Proof.Claims

/-! ### Commands as words -/

/-- R97, with what a step adds: when the core gets its turn on an accepted word that decodes to `i`, the step is
`exec i` from the ticked state, and adds nothing else. -/
def Obligations.StepRunsTheAcceptedCommand : Prop :=
  ∀ (s : State) (w : Word) (i : Instr),
    s.rst = false → CoreNext s → s.seq = .busy w → decode w = .ok i → step s = exec i s.tick

/-- R96, R246: an accepted word with a reserved bit set or an unmapped OPC ends the command with ILLEGAL_COMMAND and
ERR_INFO = the word, and changes no other state. -/
def Obligations.IllegalWordsEndWithIllegalCommand : Prop :=
  ∀ (s : State) (w : Word),
    s.rst = false → CoreNext s → s.seq = .busy w →
    (w.extractLsb' 8 24 ≠ 0#24 ∨ 0x07#8 < w.extractLsb' 0 8) →
    step s = .next { s.tick with seq := .idle, errCode := .illegalCommand, errInfo := w }

/-- R95's last sentence: a word is command OPC = w[7:0] exactly when w[31:8] = 0 and w[7:0] ≤ 0x07; and the words of
the commands are the encoder's, each decoding to its command alone. -/
def Obligations.CommandWordsAreExactlyTheEight : Prop :=
  (∀ w : Word, (∃ i, decode w = .ok i) ↔ w.extractLsb' 8 24 = 0#24 ∧ w.extractLsb' 0 8 ≤ 0x07#8) ∧
    ∀ (w : Word) (i : Instr), decode w = .ok i ↔ w = encode i

/-- The eight words of R95 and three words R96 calls illegal, written out. -/
def Obligations.WrittenOutWordsDecode : Prop :=
  decode 0x00000000#32 = .ok .nop ∧ decode 0x00000001#32 = .ok .gfMul ∧ decode 0x00000002#32 = .ok .rsGen ∧
  decode 0x00000003#32 = .ok .rsRem ∧ decode 0x00000004#32 = .ok .encode ∧ decode 0x00000005#32 = .ok .build ∧
  decode 0x00000006#32 = .ok .render ∧ decode 0x00000007#32 = .ok .run ∧
  decode 0x00000008#32 = .error .unmappedOpcode ∧ decode 0x00000100#32 = .error .reservedBits ∧
  decode 0xFFFFFFFF#32 = .error .reservedBits

/-! ### The host bus -/

/-- R60, R64, R30 to R48, R62: a read of each of the thirteen registers while BUSY = 0 and rst is low returns its
value with the unused bits 0, at each of its four byte addresses, and changes nothing. -/
def Obligations.RegisterReadsReturnTheirValues : Prop :=
  ∀ (s : State) (a : BitVec 16) (v : Word),
    s.rst = false → ¬ BusyBit s → NextInput s (.read a) → (wordAddr a, v) ∈ registerValues s →
    step s = .next (answered s a v)

/-- R64, R118, R190, R282: reads of the windows while BUSY = 0 and rst is low: EXP and LOG once READY = 1; READY or
not, GEN, the written TEXT and CW entries zero-extended, and MATRIX as {0, FUNC, SET, DARK}. -/
def Obligations.WindowReadsReturnTheirEntries : Prop :=
  ∀ (s : State) (a : BitVec 16),
    s.rst = false → ¬ BusyBit s → NextInput s (.read a) →
    (∀ i : Fin 512, ReadyBit s → (wordAddr a).toNat = 0x1000 + 4 * i.val →
      step s = .next (answered s a ((s.tables.exp.get i).setWidth 32))) ∧
    (∀ i : Fin 256, ReadyBit s → (wordAddr a).toNat = 0x1800 + 4 * i.val →
      step s = .next (answered s a ((s.tables.log.get i).setWidth 32))) ∧
    (∀ i : Fin 33, (wordAddr a).toNat = 0x1C00 + 4 * i.val →
      step s = .next (answered s a ((s.gen.get i).setWidth 32))) ∧
    (∀ (i : Fin 256) (b : Byte), (wordAddr a).toNat = 0x2000 + 4 * i.val → Memory.read s.text i.val = some b →
      step s = .next (answered s a (b.setWidth 32))) ∧
    (∀ (i : Fin 128) (b : Byte), (wordAddr a).toNat = 0x2400 + 4 * i.val → Memory.read s.cw i.val = some b →
      step s = .next (answered s a (b.setWidth 32))) ∧
    (∀ r c : Fin 29, (wordAddr a).toNat = 0x3000 + 4 * (32 * r.val + c.val) →
      ∃ v : Word, step s = .next (answered s a v) ∧
        v.getLsbD 0 = decide ((s.matrix.get r c).val = .dark) ∧
        v.getLsbD 1 = decide ((s.matrix.get r c).val ≠ .unset) ∧
        v.getLsbD 2 = (s.matrix.get r c).func ∧ v.extractLsb' 3 29 = 0#29)

/-- R65: while BUSY = 0 and rst is low a read of a reserved address returns 0 and a write to it changes nothing and is
no drop; the reserved bits of STATUS read 0; and no access, to any address in any state, raises an error. -/
def Obligations.ReservedAddressesAreHarmless : Prop :=
  (∀ (s : State) (a : BitVec 16), s.rst = false → ¬ BusyBit s → IsReserved a → NextInput s (.read a) →
    step s = .next (answered s a 0#32)) ∧
  (∀ (s : State) (a : BitVec 16) (v : Word), s.rst = false → ¬ BusyBit s → IsReserved a →
    NextInput s (.write a v) → step s = .next s.tick) ∧
  (∀ s : State, s.statusWord.extractLsb' 4 4 = 0#4 ∧ s.statusWord.extractLsb' 24 8 = 0#8) ∧
  (∀ (s : State) (a : BitVec 16) (v : Word), NextInput s (.read a) ∨ NextInput s (.write a v) →
    ∃ t, step s = .next t ∧ (t.errCode = s.errCode ∨ ∃ w, t.seq = .busy w ∧ t.errCode = .noError))

/-- R66, R281: in every state a host read changes nothing; and while BUSY, with rst low, ID and STATUS are answered
as ever. -/
def Obligations.ReadsHaveNoSideEffect : Prop :=
  (∀ (s : State) (a : BitVec 16), NextInput s (.read a) → ∃ v, step s = .next (answered s a v)) ∧
  (∀ (s : State) (a : BitVec 16), s.rst = false → BusyBit s → NextInput s (.read a) →
    (wordAddr a = 0x0000#16 → step s = .next (answered s a 0x5152031D#32)) ∧
    (wordAddr a = 0x0004#16 → step s = .next (answered s a s.statusWord)))

/-- R61, R64, R34 to R39, R46, R47: a write to an operand register while BUSY = 0 and rst is low stores the bits its
rule names, ignores the rest, and changes nothing else; READY or not (R273, R249). -/
def Obligations.OperandWritesStoreTheNamedBits : Prop :=
  ∀ (s : State) (a : BitVec 16) (v : Word) (t : State),
    s.rst = false → ¬ BusyBit s → NextInput s (.write a v) → (wordAddr a, t) ∈ operandWrites s.tick v →
    step s = .next t

/-- R64, R43, R44: a write to TEXT[i] or CW[i] while BUSY = 0 and rst is low stores v[7:0] there; every other entry
of both RAMs reads as before, and nothing else changes. -/
def Obligations.RamWindowWritesStoreOneByte : Prop :=
  ∀ (s : State) (a : BitVec 16) (v : Word),
    s.rst = false → ¬ BusyBit s → NextInput s (.write a v) →
    (∀ i : Fin 256, (wordAddr a).toNat = 0x2000 + 4 * i.val →
      ∃ m, step s = .next { s.tick with text := m } ∧
        Memory.read m i.val = some (v.extractLsb' 0 8) ∧
        ∀ j, j ≠ i.val → Memory.read m j = Memory.read s.text j) ∧
    (∀ i : Fin 128, (wordAddr a).toNat = 0x2400 + 4 * i.val →
      ∃ m, step s = .next { s.tick with cw := m } ∧
        Memory.read m i.val = some (v.extractLsb' 0 8) ∧
        ∀ j, j ≠ i.val → Memory.read m j = Memory.read s.cw j)

/-- R61, R64, R117: a write to a read-only register or window while BUSY = 0 and rst is low changes nothing. -/
def Obligations.ReadOnlyTargetsIgnoreWrites : Prop :=
  ∀ (s : State) (a : BitVec 16) (v : Word),
    s.rst = false → ¬ BusyBit s → IsReadOnly a → NextInput s (.write a v) → step s = .next s.tick

/-- R280: while BUSY = 1 every host write but one to STATUS is dropped: it changes nothing but sets DROPPED; and
while READY = 0 a CMD write is dropped likewise. -/
def Obligations.WritesWhileBusyAreDropped : Prop :=
  (∀ (s : State) (a : BitVec 16) (v : Word), s.rst = false → BusyBit s → wordAddr a ≠ 0x0004#16 →
    NextInput s (.write a v) → step s = .next { s.tick with dropped := true }) ∧
  (∀ (s : State) (a : BitVec 16) (v : Word), s.rst = false → ¬ ReadyBit s → wordAddr a = 0x0008#16 →
    NextInput s (.write a v) → step s = .next { s.tick with dropped := true })

/-- R31: a write to STATUS, in every state with rst low, clears DROPPED when bit 3 is 1 and changes nothing else; and
a step clears DROPPED only by such a write or by reset. -/
def Obligations.OnlyTheHostClearsDropped : Prop :=
  (∀ (s : State) (a : BitVec 16) (v : Word), s.rst = false → wordAddr a = 0x0004#16 → NextInput s (.write a v) →
    step s = .next { s.tick with dropped := if v.getLsbD 3 then false else s.dropped }) ∧
  (∀ s t : State, step s = .next t → s.dropped = true → t.dropped = false →
    (∃ a v, NextInput s (.write a v) ∧ wordAddr a = 0x0004#16 ∧ v.getLsbD 3 = true) ∨ NextInput s (.reset true))

/-- R250's pseudocode, with R48: a CMD write is accepted exactly when READY = 1 and BUSY = 0: BUSY, ERR_CODE 0,
ERR_INFO 0, LAST_CMD = w[7:0], OUT_COUNT 0 for RENDER and RUN; else it only sets DROPPED. -/
def Obligations.CommandAcceptance : Prop :=
  ∀ (s : State) (a : BitVec 16) (w : Word),
    s.rst = false → wordAddr a = 0x0008#16 → NextInput s (.write a w) →
    step s = .next
      (if ReadyBit s ∧ ¬ BusyBit s then
        { s.tick with
          seq := .busy w
          errCode := .noError
          errInfo := 0#32
          lastCmd := w.extractLsb' 0 8
          outCount := if w = 0x00000006#32 ∨ w = 0x00000007#32 then 0#32 else s.outCount }
      else { s.tick with dropped := true })

/-- R21, R31, R241, R54 (2), (3): the layout of STATUS; when the sequencer makes BUSY, READY and FATAL 1; that FATAL
excludes READY and BUSY and BUSY implies READY; and the numeric error codes. -/
def Obligations.StatusWordLayout : Prop :=
  ∀ s : State,
    s.statusWord.getLsbD 0 = s.isBusy ∧ s.statusWord.getLsbD 1 = s.isReady ∧ s.statusWord.getLsbD 2 = s.isFatal ∧
    s.statusWord.getLsbD 3 = s.dropped ∧ s.statusWord.extractLsb' 8 8 = s.errCode.code ∧
    s.statusWord.extractLsb' 16 8 = s.lastCmd ∧
    (s.isBusy = true ↔ (∃ w, s.seq = .busy w) ∨ ∃ p, s.seq = .stream p) ∧
    (s.isReady = true ↔ s.seq ≠ .initFailed ∧ ∀ p, s.seq ≠ .init p) ∧
    (s.isFatal = true ↔ s.seq = .initFailed) ∧
    (s.isFatal = true → s.isReady = false ∧ s.isBusy = false) ∧ (s.isBusy = true → s.isReady = true) ∧
    ErrCode.noError.code = 0x00#8 ∧ ErrCode.capacityExceeded.code = 0x01#8 ∧
    ErrCode.internalInvariant.code = 0x02#8 ∧ ErrCode.invalidDimension.code = 0x03#8 ∧
    ErrCode.ioFailure.code = 0x04#8 ∧ ErrCode.illegalCommand.code = 0x05#8 ∧ ErrCode.operandRange.code = 0x06#8 ∧
    ErrCode.matrixIncomplete.code = 0x07#8

/-! ### Reset and initialisation -/

/-- R55: the reset values the spec states; nothing is listed in TEXT and CW, whose contents it leaves unspecified
(the model's choice, log 4). -/
def Obligations.ResetValues : Prop :=
  let s := State.reset
  s.readLoc .id = 0x5152031D#32 ∧ s.statusWord = 0x00000000#32 ∧ s.errInfo = 0#32 ∧ s.gfA = 0#8 ∧ s.gfB = 0#8 ∧
  s.gfR = 0#8 ∧ s.rsLen = 0#8 ∧ s.rsDeg = 0#8 ∧ s.textLen = 0#8 ∧ s.scale = 0#16 ∧ s.pad = 0#16 ∧
  s.outCount = 0#32 ∧ (∀ i, s.gen.get i = 0#8) ∧ (∀ a, Memory.read s.text a = none) ∧
  (∀ a, Memory.read s.cw a = none) ∧ (∀ r c, s.matrix.get r c = ⟨.unset, false⟩) ∧
  (∃ p, s.seq = .init p) ∧ s.docValid = false

/-- R270, R286: asserting rst, in every state, gives every field of the machine its reset value (the observers'
records are not the machine's and stay); deasserting it changes nothing else. What TEXT, CW, EXP and LOG hold then is
the model's choice (logs 4, 7 and 14). -/
def Obligations.ResetAbandonsEverything : Prop :=
  (∀ s : State, NextInput s (.reset true) →
    step s = .next { State.reset with
      rst := true, inputs := s.inputs.tail, reads := s.reads, sent := s.sent, draws := s.draws + 1 }) ∧
  (∀ s : State, NextInput s (.reset false) → step s = .next { s.tick with rst := false })

/-- R270: while rst is asserted the core performs no step, host writes are without effect, and the sink's lines do
nothing. -/
def Obligations.NothingMovesUnderReset : Prop :=
  ∀ s : State, s.rst = true →
    (CoreNext s ∨ (∃ a v, NextInput s (.write a v)) ∨ ∃ r e, NextInput s (.sink r e)) → step s = .next s.tick

/-- R111 to R114: the table construction from reset passes its completeness check and builds the tables the spec
prints; it starts from zeros, the model's choice (log 7), and writes every entry. -/
def Obligations.InitialisationBuildsTheTables : Prop :=
  initRun 256 InitPos.start Tables.reset = some builtTables

/-- R40, R41, R111, R113, R114: EXP starts at 1 and each entry doubles the one before modulo 0x11D; EXP[i] =
EXP[i − 255] from 255 on; LOG inverts EXP on 0..254; LOG[0] = 0. -/
def Obligations.BuiltTablesContent : Prop :=
  builtTables.expAt 0 = 0x01#8 ∧
  (∀ i, i < 254 → builtTables.expAt (i + 1) = reduce11D ((builtTables.expAt i).setWidth 16 <<< 1)) ∧
  (∀ i, 255 ≤ i → i < 512 → builtTables.expAt i = builtTables.expAt (i - 255)) ∧
  (∀ i, i < 255 → builtTables.logAt (builtTables.expAt i) = i) ∧ builtTables.logAt 0x00#8 = 0

/-- R273, R274: left alone from reset, the core reaches READY in 256 turns, with the tables built and everything else
at its reset value. One turn for each round of the loop is the model's choice (log 2). -/
def Obligations.InitialisationEndsReady : Prop :=
  Host.Core.run Sys2Proof.core 256 State.reset =
    .next { State.reset with seq := .idle, tables := builtTables, draws := 256 }

/-- R249, R274, R54 (1): every step keeps that initialisation is on its one course, that FATAL is not set, and that
READY = 1 means EXP and LOG hold the tables. The course fixes EXP and LOG before READY too, from the zeros of
Tables.reset: R40 and R41 leave those contents unspecified, and the zeros are the model's choice (log 7). -/
def Obligations.TablesSoundKept : Prop :=
  ∀ s t : State, TablesSound s → step s = .next t → TablesSound t

/-- R117, R274: once READY = 1, a step that is not an assertion of rst changes neither EXP nor LOG nor READY. -/
def Obligations.TablesImmutableOnceReady : Prop :=
  ∀ s t : State, ReadyBit s → ¬ NextInput s (.reset true) → step s = .next t → t.tables = s.tables ∧ ReadyBit t

/-- The state after reset meets every invariant; for the tables and the RAMs these speak of the model's choices of
logs 7 and 22. -/
def Obligations.ResetStateIsSound : Prop := SoundState State.reset

/-! ### NOP -/

/-- R230: NOP answers, in every state, a state in which only the command has ended. -/
def Obligations.NopCompletes : Prop := ∀ s : State, exec .nop s = .next { s with seq := .idle }

/-! ### GF(256) -/

/-- R119, R115: GF_MUL answers, for all operands, GF_R = 0 if either operand is 0, else EXP[LOG a + LOG b]; nothing
else changes. -/
def Obligations.GfMulCompletes : Prop :=
  ∀ s : State,
    exec .gfMul s =
      .next { s with
        gfR := if s.gfA = 0#8 ∨ s.gfB = 0#8 then 0#8 else s.tables.expAt (s.tables.logAt s.gfA + s.tables.logAt s.gfB)
        seq := .idle }

/-- R120: over the built tables gmul has identity, zero, commutativity, inverses and no zero divisors. -/
def Obligations.FieldLaws : Prop :=
  ∀ a b : Byte,
    gmul builtTables a 0x01#8 = a ∧ gmul builtTables a 0x00#8 = 0x00#8 ∧
    gmul builtTables a b = gmul builtTables b a ∧
    (a ≠ 0#8 → gmul builtTables a (builtTables.expAt (255 - builtTables.logAt a)) = 0x01#8) ∧
    (gmul builtTables a b = 0#8 → a = 0#8 ∨ b = 0#8)

/-- R120's last sentence: gmul over the built tables is carry-less multiplication reduced modulo 0x11D. -/
def Obligations.GmulIsCarrylessProduct : Prop :=
  ∀ a b : Byte, gmul builtTables a b = reduce11D (clmul a b)

/-- R120: over the built tables gmul is associative and distributes over XOR. -/
def Obligations.GmulAssociativeDistributive : Prop :=
  ∀ a b c : Byte,
    gmul builtTables (gmul builtTables a b) c = gmul builtTables a (gmul builtTables b c) ∧
    gmul builtTables a (b ^^^ c) = gmul builtTables a b ^^^ gmul builtTables a c

/-! ### Reed-Solomon -/

/-- R134: for k ≤ 32 RS_GEN answers GEN[0..k] = generator(k), GEN[k+1..32] = 0; nothing else changes. -/
def Obligations.RsGenCompletes : Prop :=
  ∀ s : State, s.rsDeg.toNat ≤ 32 →
    ∃ g : Vector Byte 33, exec .rsGen s = .next { s with gen := g, seq := .idle } ∧
      ∀ j : Fin 33, g.get j = if j.val ≤ s.rsDeg.toNat then (generator s.tables s.rsDeg.toNat).getD j.val 0#8 else 0#8

/-- R135: for k ≤ 32 and L + k ≤ 128 RS_REM answers GEN as RS_GEN does and CW[L..L+k−1] = remainder of CW[0..L−1],
every other entry of CW as before; nothing else changes. An entry of the data that was never written is a free value
(log 4). -/
def Obligations.RsRemCompletes : Prop :=
  ∀ s : State, s.rsDeg.toNat ≤ 32 → s.rsLen.toNat + s.rsDeg.toNat ≤ 128 →
    ∃ (g : Vector Byte 33) (m : Memory), exec .rsRem s = .next { s with gen := g, cw := m, seq := .idle } ∧
      (∀ j : Fin 33,
        g.get j = if j.val ≤ s.rsDeg.toNat then (generator s.tables s.rsDeg.toNat).getD j.val 0#8 else 0#8) ∧
      (∀ j, j < s.rsDeg.toNat →
        Memory.read m (s.rsLen.toNat + j) =
          (remainder s.tables ((List.range s.rsLen.toNat).map s.cwEntry) s.rsDeg.toNat)[j]?) ∧
      (∀ j, j < s.rsDeg.toNat → (Memory.read m (s.rsLen.toNat + j)).isSome) ∧
      ∀ a, (a < s.rsLen.toNat ∨ s.rsLen.toNat + s.rsDeg.toNat ≤ a) → Memory.read m a = Memory.read s.cw a

/-- R247: RS_GEN with k > 32, and RS_REM with k > 32 or L + k > 128, end with OPERAND_RANGE and ERR_INFO = {0, L, k},
before anything is written. -/
def Obligations.RsOperandRange : Prop :=
  ∀ s : State,
    (32 < s.rsDeg.toNat →
      exec .rsGen s =
        .next { s with seq := .idle, errCode := .operandRange, errInfo := 0x0000#16 ++ s.rsLen ++ s.rsDeg }) ∧
    ((32 < s.rsDeg.toNat ∨ 128 < s.rsLen.toNat + s.rsDeg.toNat) →
      exec .rsRem s =
        .next { s with seq := .idle, errCode := .operandRange, errInfo := 0x0000#16 ++ s.rsLen ++ s.rsDeg })

/-- R132: over the built tables generator(k) is monic and has k + 1 coefficients, and for k up to K_MAX = 32 its
roots are α^0, ..., α^(k−1), where α^i is EXP[i]. -/
def Obligations.GeneratorIsMonic : Prop :=
  (∀ k : Nat, (generator builtTables k).length = k + 1 ∧ (generator builtTables k).head? = some 0x01#8) ∧
  ∀ k : Nat, k ≤ 32 → ∀ i : Nat, i < k → evalPoly (generator builtTables k) (builtTables.expAt i) = 0x00#8

/-- R136 (1): data with its remainder appended leaves remainder 0, whatever the tables. -/
def Obligations.RemainderRoundTrip : Prop :=
  ∀ (t : Tables) (d : List Byte) (k : Nat),
    (remainder t d k).length = k ∧ remainder t (d ++ remainder t d k) k = List.replicate k 0x00#8

/-- R136 (3), (5), (6): data of zeros, also of length 0, leaves zeros; [1] leaves generator(k)[1..k] over the built
tables; degree 0 leaves nothing. -/
def Obligations.RemainderOfZerosAndOne : Prop :=
  (∀ (t : Tables) (l k : Nat), remainder t (List.replicate l 0x00#8) k = List.replicate k 0x00#8) ∧
  (∀ k : Nat, remainder builtTables [0x01#8] k = (generator builtTables k).tail) ∧
  ∀ (t : Tables) (d : List Byte), remainder t d 0 = []

/-! ### ENCODE -/

/-- R156: for n ≤ 53 ENCODE answers CW[0..54] = the data codewords, every other entry of CW as before; nothing else
changes. A text byte that was never written is a free value (log 4). -/
def Obligations.EncodeCompletes : Prop :=
  ∀ s : State, s.textLen.toNat ≤ 53 →
    ∃ m : Memory, exec .encode s = .next { s with cw := m, seq := .idle } ∧
      (∀ a, a < 55 →
        Memory.read m a = (dataCodewords s.textLen ((List.range s.textLen.toNat).map s.textEntry))[a]?) ∧
      (∀ a, a < 55 → (Memory.read m a).isSome) ∧
      ∀ a, 55 ≤ a → Memory.read m a = Memory.read s.cw a

/-- R152 to R155: for 0 to 53 text bytes the bit-stream construction gives the closed form, 55 codewords. -/
def Obligations.CodewordsClosedForm : Prop :=
  ∀ (n : Byte) (bytes : List Byte), bytes.length = n.toNat → n.toNat ≤ 53 →
    dataCodewords n bytes = closedForm n bytes ∧ (dataCodewords n bytes).length = 55

/-- R242: for n ≥ 54 ENCODE ends with CAPACITY_EXCEEDED and ERR_INFO = 12 + 8n; nothing else changes. -/
def Obligations.EncodeOverCapacity : Prop :=
  ∀ s : State, 54 ≤ s.textLen.toNat →
    exec .encode s =
      .next { s with
        seq := .idle, errCode := .capacityExceeded, errInfo := BitVec.ofNat 32 (12 + 8 * s.textLen.toNat) }

/-! ### BUILD -/

/-- R171, R189: in every state BUILD answers a state with a complete matrix, built from CW[0..69], with no error;
nothing else changes. A codeword that was never written is a free value (log 4). -/
def Obligations.BuildCompletes : Prop :=
  ∀ s : State,
    ∃ m : ModuleMatrix, exec .build s = .next { s with matrix := m, seq := .idle } ∧
      buildMatrix ((List.range 70).map s.cwEntry) = .ok m ∧ ∀ r c, (m.get r c).val ≠ .unset

/-- R191: which cells are function cells, and the value of each, are the same for every input, and there are 274. -/
def Obligations.FunctionCellsDoNotDependOnInput : Prop :=
  ∀ (c₁ c₂ : List Byte) (m₁ m₂ : ModuleMatrix), buildMatrix c₁ = .ok m₁ → buildMatrix c₂ = .ok m₂ →
    (∀ r c, (m₁.get r c).func = (m₂.get r c).func ∧ ((m₁.get r c).func = true → m₁.get r c = m₂.get r c)) ∧
    (allCells.filter fun p => (m₁.get p.1 p.2).func = true).length = 274

/-- R181 to R184: the passes of R182 visit 567 data cells, (28,28), (28,27), (27,28), (27,27) first and the seven of
R183 last; the k-th holds bit k of the codewords (0 beyond 560), XORed with the mask, and is no function cell. -/
def Obligations.DataCellsCarryMaskedBits : Prop :=
  dataCells.length = 567 ∧ dataCells.take 4 = [(28, 28), (28, 27), (27, 28), (27, 27)] ∧
  dataCells.drop 560 = [(17, 0), (18, 1), (18, 0), (19, 1), (19, 0), (20, 1), (20, 0)] ∧
  ∀ (codewords : List Byte) (m : ModuleMatrix), codewords.length = 70 → buildMatrix codewords = .ok m →
    ∀ (k : Nat) (r c : Fin 29), dataCells[k]? = some (r, c) →
      m.get r c = ⟨moduleOf (dataBit codewords k ^^ decide ((r.val + c.val) % 2 = 0)), false⟩

/-- R173 to R177: in every built matrix the three finders, their margins (the separators, Light and function cells),
the timing patterns, the alignment pattern and the dark module are as drawn. -/
def Obligations.FunctionPatternsAsDrawn : Prop :=
  ∀ (codewords : List Byte) (m : ModuleMatrix), buildMatrix codewords = .ok m →
    (∀ (z : Fin 29 × Fin 29), z ∈ [((0 : Fin 29), (0 : Fin 29)), (0, 22), (22, 0)] →
      ∀ (dr dc : Fin 7) (r c : Fin 29), r.val = z.1.val + dr.val → c.val = z.2.val + dc.val →
        m.get r c =
          ⟨moduleOf (decide (dr.val = 0 ∨ dr.val = 6 ∨ dc.val = 0 ∨ dc.val = 6 ∨
            (2 ≤ dr.val ∧ dr.val ≤ 4 ∧ 2 ≤ dc.val ∧ dc.val ≤ 4))), true⟩) ∧
    (∀ (z : Fin 29 × Fin 29), z ∈ [((0 : Fin 29), (0 : Fin 29)), (0, 22), (22, 0)] →
      ∀ (dr dc : Fin 9) (r c : Fin 29), (dr.val = 0 ∨ dr.val = 8 ∨ dc.val = 0 ∨ dc.val = 8) →
        r.val + 1 = z.1.val + dr.val → c.val + 1 = z.2.val + dc.val → m.get r c = ⟨.light, true⟩) ∧
    (∀ i : Fin 29, 8 ≤ i.val → i.val ≤ 20 →
      m.get 6 i = ⟨moduleOf (decide (i.val % 2 = 0)), true⟩ ∧ m.get i 6 = ⟨moduleOf (decide (i.val % 2 = 0)), true⟩) ∧
    (∀ (dr dc : Fin 5) (r c : Fin 29), r.val = 20 + dr.val → c.val = 20 + dc.val →
      m.get r c =
        ⟨moduleOf (decide (dr.val = 0 ∨ dr.val = 4 ∨ dc.val = 0 ∨ dc.val = 4 ∨ (dr.val = 2 ∧ dc.val = 2))), true⟩) ∧
    m.get 21 8 = ⟨.dark, true⟩

/-- R185 to R188: the format word is 0x77C4, and in every built matrix its bit i stands at P[i] and at Q[i]. -/
def Obligations.FormatWordInBothCopies : Prop :=
  formatWord = 0x77C4#15 ∧
  ∀ (codewords : List Byte) (m : ModuleMatrix), buildMatrix codewords = .ok m →
    ∀ (i : Nat) (r c : Fin 29), (primaryCells[i]? = some (r, c) ∨ secondaryCells[i]? = some (r, c)) →
      m.get r c = ⟨moduleOf ((0x77C4#15).getLsbD i), true⟩

/-! ### RENDER and the document port -/

/-- R221: with scale > 0, padding ≥ 0 and a complete matrix RENDER answers OUT_COUNT = 0 and the first byte of the
document on the port, the rest of it to follow; nothing else changes. -/
def Obligations.RenderCompletes : Prop :=
  ∀ s : State, 0 < s.scale.toInt → 0 ≤ s.pad.toInt → (∀ r c, (s.matrix.get r c).val ≠ .unset) →
    ∃ b bs, document s.matrix s.scale.toInt.toNat s.pad.toInt.toNat = b :: bs ∧ b = 0x3C#8 ∧ bs ≠ [] ∧
      exec .render s = .next { s with outCount := 0#32, seq := .stream ⟨0, b, bs⟩ }

/-- R244: with scale ≤ 0 or padding < 0 RENDER ends with INVALID_DIMENSION, ERR_INFO bit 0 for the scale and bit 1
for the padding, and no byte is offered; OUT_COUNT is 0 and nothing else changes. -/
def Obligations.RenderInvalidDimension : Prop :=
  ∀ s : State, (s.scale.toInt ≤ 0 ∨ s.pad.toInt < 0) →
    exec .render s =
      .next { s with
        outCount := 0#32, seq := .idle, errCode := .invalidDimension
        errInfo := BitVec.ofNat 32 ((if s.scale.toInt ≤ 0 then 1 else 0) + (if s.pad.toInt < 0 then 2 else 0)) }

/-- R216, R248: with legal operands and an Unset cell RENDER ends with MATRIX_INCOMPLETE and ERR_INFO = 256·row + col
of the first one in row-major order, and no byte is offered. -/
def Obligations.RenderIncompleteMatrix : Prop :=
  ∀ (s : State) (r c : Fin 29), 0 < s.scale.toInt → 0 ≤ s.pad.toInt → (s.matrix.get r c).val = .unset →
    (∀ r' c' : Fin 29, (r' < r ∨ (r' = r ∧ c' < c)) → (s.matrix.get r' c').val ≠ .unset) →
    exec .render s =
      .next { s with
        outCount := 0#32, seq := .idle, errCode := .matrixIncomplete
        errInfo := BitVec.ofNat 32 (256 * r.val + c.val) }

/-- R214: dec(v) is made of ASCII digits, stands for v, has no leading zero, and dec(0) is "0". -/
def Obligations.DecimalDigits : Prop :=
  (∀ v : Nat, (∀ b ∈ dec v, 0x30 ≤ b.toNat ∧ b.toNat ≤ 0x39) ∧ decimalValue (dec v) = v ∧
    (v ≠ 0 → ∃ b bs, dec v = b :: bs ∧ b ≠ 0x30#8)) ∧
  dec 0 = [0x30#8]

/-- R213, R215, R222: the bytes of a document, written out, and their number. -/
def Obligations.DocumentLength : Prop :=
  ∀ (m : ModuleMatrix) (s p : Nat),
    document m s p = documentBytes m s p ∧
    (document m s p).length =
      (76 + 4 * dig (29 * s + 2 * p)) + (52 + 2 * dig (29 * s + 2 * p)) +
        ((allCells.filter fun rc => (m.get rc.1 rc.2).val = .dark).map (rectLength s p)).sum + 7

/-- R217, R219, R220, R245: a sink cycle while a byte is offered: doc_err ends the render with IO_FAILURE and ERR_INFO
= OUT_COUNT, whatever doc_ready is; doc_ready alone transfers the byte, counts it and offers the next or ends the
command; neither leaves everything. Outside streaming nothing happens. R217, R218: the port offers a byte (doc_valid = 1)
exactly while streaming, with doc_first on the first byte and doc_last on the one nothing follows. -/
def Obligations.SinkCycleOutcomes : Prop :=
  (∀ (s : State) (p : RenderPos) (ready err : Bool),
    s.rst = false → s.seq = .stream p → NextInput s (.sink ready err) →
    step s = .next
      (if err then { s.tick with seq := .idle, errCode := .ioFailure, errInfo := s.outCount }
      else if ready then
        { s.tick with
          outCount := s.outCount + 1#32
          sent := ⟨p.offered, decide (p.pos = 0), p.rest.isEmpty⟩ :: s.sent
          seq :=
            match p.rest with
            | [] => .idle
            | b :: bs => .stream ⟨p.pos + 1, b, bs⟩ }
      else s.tick)) ∧
  (∀ (s : State) (ready err : Bool), (∀ p, s.seq ≠ .stream p) → NextInput s (.sink ready err) →
    step s = .next s.tick) ∧
  (∀ (s : State) (p : RenderPos), s.seq = .stream p →
    s.docValid = true ∧ s.docOffer = some ⟨p.offered, decide (p.pos = 0), decide (p.rest = [])⟩) ∧
  (∀ s : State, (∀ p, s.seq ≠ .stream p) → s.docValid = false ∧ s.docOffer = none)

/-- R217, R218, R220: every step keeps that, while a document streams, the bytes the sink has taken are the first
OUT_COUNT bytes of document(M, s, p) with their marks, and the offered byte and those behind it are its rest. -/
def Obligations.StreamSoundKept : Prop :=
  ∀ s t : State, StreamSound s → step s = .next t → StreamSound t

/-- R221, R213, R218, R220: an accepted RENDER on legal operands and a complete matrix, with a sink that takes every
byte, emits exactly document(M, s, p) with doc_first on its first byte and doc_last on its last, and ends with
OUT_COUNT its length and ERR_CODE and ERR_INFO as its acceptance left them. -/
def Obligations.RenderEmitsTheDocument : Prop :=
  ∀ s : State, s.rst = false → s.seq = .busy 0x00000006#32 → 0 < s.scale.toInt → 0 ≤ s.pad.toInt →
    (∀ r c, (s.matrix.get r c).val ≠ .unset) →
    s.inputs = .core :: List.replicate s.doc.length (.sink true false) →
    Host.Core.run Sys2Proof.core (s.doc.length + 1) s =
      .next { s with
        seq := .idle
        outCount := BitVec.ofNat 32 s.doc.length
        sent := (docFrames s.doc).reverse ++ s.sent
        inputs := []
        draws := s.draws + (s.doc.length + 1) }

/-! ### RUN -/

/-- R231: for n ≤ 53 and legal SCALE and PAD RUN answers CW[0..69] = codewords and their 15 EC codewords, GEN =
generator(15), MATRIX built from them, OUT_COUNT = 0 and the document's first byte on the port; RS_LEN, RS_DEG and
all else unchanged. -/
def Obligations.RunCompletes : Prop :=
  ∀ s : State, s.textLen.toNat ≤ 53 → 0 < s.scale.toInt → 0 ≤ s.pad.toInt →
    ∃ (c e : List Byte) (g : Vector Byte 33) (m : Memory) (x : ModuleMatrix) (b : Byte) (bs : List Byte),
      c = dataCodewords s.textLen ((List.range s.textLen.toNat).map s.textEntry) ∧
      e = remainder s.tables c 15 ∧ buildMatrix (c ++ e) = .ok x ∧
      document x s.scale.toInt.toNat s.pad.toInt.toNat = b :: bs ∧
      (∀ j : Fin 33, g.get j = if j.val ≤ 15 then (generator s.tables 15).getD j.val 0#8 else 0#8) ∧
      (∀ a, a < 70 → Memory.read m a = (c ++ e)[a]?) ∧ (∀ a, 70 ≤ a → Memory.read m a = Memory.read s.cw a) ∧
      exec .run s =
        .next { s with outCount := 0#32, gen := g, cw := m, matrix := x, seq := .stream ⟨0, b, bs⟩ }

/-- R231: RUN stops at its first error. For n ≥ 54 stage 1 ends it with nothing written but OUT_COUNT; for n ≤ 53 and
an illegal SCALE or PAD stage 4 ends it after stages 1 to 3 have written CW[0..69] = codewords and their 15 EC
codewords, GEN = generator(15) and MATRIX built from them, as in a RUN that succeeds. -/
def Obligations.RunStopsAtTheFirstError : Prop :=
  (∀ s : State, 54 ≤ s.textLen.toNat →
    exec .run s =
      .next { s with
        outCount := 0#32, seq := .idle, errCode := .capacityExceeded
        errInfo := BitVec.ofNat 32 (12 + 8 * s.textLen.toNat) }) ∧
  (∀ s : State, s.textLen.toNat ≤ 53 → (s.scale.toInt ≤ 0 ∨ s.pad.toInt < 0) →
    ∃ (c e : List Byte) (g : Vector Byte 33) (m : Memory) (x : ModuleMatrix),
      c = dataCodewords s.textLen ((List.range s.textLen.toNat).map s.textEntry) ∧
      e = remainder s.tables c 15 ∧ buildMatrix (c ++ e) = .ok x ∧
      (∀ j : Fin 33, g.get j = if j.val ≤ 15 then (generator s.tables 15).getD j.val 0#8 else 0#8) ∧
      (∀ a, a < 70 → Memory.read m a = (c ++ e)[a]?) ∧ (∀ a, a < 70 → (Memory.read m a).isSome) ∧
      (∀ a, 70 ≤ a → Memory.read m a = Memory.read s.cw a) ∧
      exec .run s =
        .next { s with
          outCount := 0#32, gen := g, cw := m, matrix := x, seq := .idle, errCode := .invalidDimension
          errInfo := BitVec.ofNat 32 ((if s.scale.toInt ≤ 0 then 1 else 0) + (if s.pad.toInt < 0 then 2 else 0)) })

/-- R232: RUN ends in the state of ENCODE; RS_REM with RS_LEN = 55, RS_DEG = 15; BUILD; RENDER, but for RS_LEN and
RS_DEG; and where ENCODE fails, in the state ENCODE leaves, but for OUT_COUNT = 0. -/
def Obligations.RunEqualsTheFourCommands : Prop :=
  (∀ s : State, s.textLen.toNat ≤ 53 →
    ∃ s₁ s₂ s₃ s₄, exec .encode s = .next s₁ ∧
      exec .rsRem { s₁ with rsLen := 0x37#8, rsDeg := 0x0F#8 } = .next s₂ ∧ exec .build s₂ = .next s₃ ∧
      exec .render s₃ = .next s₄ ∧
      exec .run s = .next { s₄ with rsLen := s.rsLen, rsDeg := s.rsDeg }) ∧
  (∀ s : State, 54 ≤ s.textLen.toNat →
    ∃ s₁, exec .encode s = .next s₁ ∧ exec .run s = .next { s₁ with outCount := 0#32 })

/-- R233: what RUN leaves in CW[0..69], GEN, MATRIX, OUT_COUNT and on the port, the document's bytes among it, is a
function of TEXT[0..n−1], n, SCALE and PAD alone, whatever the state before it, for n ≤ 53 and written text bytes. -/
def Obligations.RunIsDeterminedByItsInputs : Prop :=
  ∀ s₁ s₂ t₁ : State,
    s₁.tables = builtTables → s₂.tables = builtTables → s₁.textLen.toNat ≤ 53 → s₂.textLen = s₁.textLen →
    s₂.scale = s₁.scale → s₂.pad = s₁.pad →
    (∀ i, i < s₁.textLen.toNat → ∃ b, Memory.read s₁.text i = some b ∧ Memory.read s₂.text i = some b) →
    exec .run s₁ = .next t₁ →
    ∃ t₂, exec .run s₂ = .next t₂ ∧ (∀ a, a < 70 → Memory.read t₂.cw a = Memory.read t₁.cw a) ∧ t₂.gen = t₁.gen ∧
      t₂.matrix = t₁.matrix ∧ t₂.outCount = t₁.outCount ∧ t₂.seq = t₁.seq

/-! ### The whole machine -/

/-- R43, R44 for the bounds: every step keeps TEXT and CW inside their 256 and 128 entries, and in canonical form, which
is the model's representation (log 22). -/
def Obligations.RamsCanonicalKept : Prop :=
  ∀ s t : State, RamsCanonical s → step s = .next t → RamsCanonical t

/-- R250, R253, R55: every step keeps that no error is reported during initialisation or while a command runs, and that
LAST_CMD names the running command. -/
def Obligations.StatusSoundKept : Prop :=
  ∀ s t : State, StatusSound s → step s = .next t → StatusSound t

/-- R45, R54 (4), R216: every step keeps that MATRIX is as reset allocates it, or complete. -/
def Obligations.MatrixSoundKept : Prop :=
  ∀ s t : State, MatrixSound s → step s = .next t → MatrixSound t

/-- R20, R95: what each command may write, and that it writes nothing else, whether it succeeds or fails: no operand
register, no table, no TEXT entry, no DROPPED; GF_R only GF_MUL; GEN only RS_GEN, RS_REM, RUN; MATRIX only BUILD,
RUN; OUT_COUNT only RENDER, RUN; CW only the entries its rule names; and an error ends the command. -/
def Obligations.CommandsWriteOnlyTheirResults : Prop :=
  ∀ (i : Instr) (s t : State), exec i s = .next t →
    (t.dropped = s.dropped ∧ t.lastCmd = s.lastCmd ∧ t.gfA = s.gfA ∧ t.gfB = s.gfB ∧ t.rsLen = s.rsLen ∧
      t.rsDeg = s.rsDeg ∧ t.textLen = s.textLen ∧ t.scale = s.scale ∧ t.pad = s.pad ∧ t.tables = s.tables ∧
      t.text = s.text ∧ t.rst = s.rst ∧ t.inputs = s.inputs ∧ t.reads = s.reads ∧ t.sent = s.sent ∧
      t.draws = s.draws) ∧
    (i ≠ .gfMul → t.gfR = s.gfR) ∧ (i ≠ .rsGen → i ≠ .rsRem → i ≠ .run → t.gen = s.gen) ∧
    (i ≠ .build → i ≠ .run → t.matrix = s.matrix) ∧ (i ≠ .render → i ≠ .run → t.outCount = s.outCount) ∧
    (∀ a, ¬ WritesCw i s a → Memory.read t.cw a = Memory.read s.cw a) ∧
    ((t.errCode = s.errCode ∧ t.errInfo = s.errInfo) ∨ (t.errCode ≠ .noError ∧ t.seq = .idle)) ∧
    (t.seq = .idle ∨ ∃ p, t.seq = .stream p ∧ (i = .render ∨ i = .run))

/-- R261, R249, R284, R217: with rst low, a turn of the core changes nothing in an idle machine, in one whose
initialisation failed, or in one whose offered byte the sink has not taken. -/
def Obligations.CoreWithNothingToDo : Prop :=
  ∀ s : State, s.rst = false → CoreNext s →
    (s.seq = .idle ∨ s.seq = .initFailed ∨ ∃ p, s.seq = .stream p) → step s = .next s.tick
end

