-- ==== Sys2Proof/Laws/Bus.lean ====
section
/-! SUPPORT. Addresses of the host bus: the low two bits do not matter (spec/20_memory.md R62). -/

namespace Sys2Proof.Machine

/-- Clearing bits [1:0] of an address is rounding down to a multiple of 4. -/
theorem wordAddr_toNat (a : BitVec 16) : (a &&& 0xFFFC#16).toNat = a.toNat / 4 * 4 := by
  have hn : a.toNat < 2 ^ 16 := a.isLt
  rw [BitVec.toNat_and]
  apply Nat.eq_of_testBit_eq
  intro i
  rw [show (0xFFFC#16).toNat = (2 ^ 14 - 1) * 2 ^ 2 by decide, show a.toNat / 4 * 4 = a.toNat / 2 ^ 2 * 2 ^ 2 by norm_num,
    Nat.testBit_and, Nat.testBit_mul_two_pow, Nat.testBit_mul_two_pow, Nat.testBit_div_two_pow,
    Nat.testBit_two_pow_sub_one]
  by_cases hi : 2 ≤ i
  · by_cases hj : i < 16
    · have : i - 2 < 14 := by omega
      simp [hi, this]
    · have : a.toNat.testBit i = false :=
        Nat.testBit_lt_two_pow (Nat.lt_of_lt_of_le hn (Nat.pow_le_pow_right (by decide) (by omega)))
      simp [this, hi]
  · simp [hi]

/-- What an address reaches depends on its word address alone. -/
theorem locate_eq_wordAddr (a : BitVec 16) : locate a = locateWord ((a &&& 0xFFFC#16).toNat / 4) := by
  rw [wordAddr_toNat, Nat.mul_div_cancel _ (by decide), locate]

end Sys2Proof.Machine
end

