-- ==== Sys2Proof/Laws/State.lean ====
section
/-! SUPPORT. One lemma per field per named update of State, each true by rfl, so that no proof unfolds an update. -/

namespace Sys2Proof.Machine

variable (s : State)

/-! ### State.endCommand -/

@[simp] theorem State.endCommand_dropped : (s.endCommand).dropped = s.dropped := rfl
@[simp] theorem State.endCommand_errCode : (s.endCommand).errCode = s.errCode := rfl
@[simp] theorem State.endCommand_lastCmd : (s.endCommand).lastCmd = s.lastCmd := rfl
@[simp] theorem State.endCommand_errInfo : (s.endCommand).errInfo = s.errInfo := rfl
@[simp] theorem State.endCommand_gfA : (s.endCommand).gfA = s.gfA := rfl
@[simp] theorem State.endCommand_gfB : (s.endCommand).gfB = s.gfB := rfl
@[simp] theorem State.endCommand_gfR : (s.endCommand).gfR = s.gfR := rfl
@[simp] theorem State.endCommand_rsLen : (s.endCommand).rsLen = s.rsLen := rfl
@[simp] theorem State.endCommand_rsDeg : (s.endCommand).rsDeg = s.rsDeg := rfl
@[simp] theorem State.endCommand_textLen : (s.endCommand).textLen = s.textLen := rfl
@[simp] theorem State.endCommand_scale : (s.endCommand).scale = s.scale := rfl
@[simp] theorem State.endCommand_pad : (s.endCommand).pad = s.pad := rfl
@[simp] theorem State.endCommand_outCount : (s.endCommand).outCount = s.outCount := rfl
@[simp] theorem State.endCommand_tables : (s.endCommand).tables = s.tables := rfl
@[simp] theorem State.endCommand_gen : (s.endCommand).gen = s.gen := rfl
@[simp] theorem State.endCommand_text : (s.endCommand).text = s.text := rfl
@[simp] theorem State.endCommand_cw : (s.endCommand).cw = s.cw := rfl
@[simp] theorem State.endCommand_matrix : (s.endCommand).matrix = s.matrix := rfl
@[simp] theorem State.endCommand_seq : (s.endCommand).seq = .idle := rfl
@[simp] theorem State.endCommand_rst : (s.endCommand).rst = s.rst := rfl
@[simp] theorem State.endCommand_inputs : (s.endCommand).inputs = s.inputs := rfl
@[simp] theorem State.endCommand_reads : (s.endCommand).reads = s.reads := rfl
@[simp] theorem State.endCommand_sent : (s.endCommand).sent = s.sent := rfl
@[simp] theorem State.endCommand_draws : (s.endCommand).draws = s.draws := rfl

/-! ### State.raise -/

@[simp] theorem State.raise_dropped (code : ErrCode) (info : Word) : (s.raise code info).dropped = s.dropped := rfl
@[simp] theorem State.raise_errCode (code : ErrCode) (info : Word) : (s.raise code info).errCode = code := rfl
@[simp] theorem State.raise_lastCmd (code : ErrCode) (info : Word) : (s.raise code info).lastCmd = s.lastCmd := rfl
@[simp] theorem State.raise_errInfo (code : ErrCode) (info : Word) : (s.raise code info).errInfo = info := rfl
@[simp] theorem State.raise_gfA (code : ErrCode) (info : Word) : (s.raise code info).gfA = s.gfA := rfl
@[simp] theorem State.raise_gfB (code : ErrCode) (info : Word) : (s.raise code info).gfB = s.gfB := rfl
@[simp] theorem State.raise_gfR (code : ErrCode) (info : Word) : (s.raise code info).gfR = s.gfR := rfl
@[simp] theorem State.raise_rsLen (code : ErrCode) (info : Word) : (s.raise code info).rsLen = s.rsLen := rfl
@[simp] theorem State.raise_rsDeg (code : ErrCode) (info : Word) : (s.raise code info).rsDeg = s.rsDeg := rfl
@[simp] theorem State.raise_textLen (code : ErrCode) (info : Word) : (s.raise code info).textLen = s.textLen := rfl
@[simp] theorem State.raise_scale (code : ErrCode) (info : Word) : (s.raise code info).scale = s.scale := rfl
@[simp] theorem State.raise_pad (code : ErrCode) (info : Word) : (s.raise code info).pad = s.pad := rfl
@[simp] theorem State.raise_outCount (code : ErrCode) (info : Word) : (s.raise code info).outCount = s.outCount := rfl
@[simp] theorem State.raise_tables (code : ErrCode) (info : Word) : (s.raise code info).tables = s.tables := rfl
@[simp] theorem State.raise_gen (code : ErrCode) (info : Word) : (s.raise code info).gen = s.gen := rfl
@[simp] theorem State.raise_text (code : ErrCode) (info : Word) : (s.raise code info).text = s.text := rfl
@[simp] theorem State.raise_cw (code : ErrCode) (info : Word) : (s.raise code info).cw = s.cw := rfl
@[simp] theorem State.raise_matrix (code : ErrCode) (info : Word) : (s.raise code info).matrix = s.matrix := rfl
@[simp] theorem State.raise_seq (code : ErrCode) (info : Word) : (s.raise code info).seq = .idle := rfl
@[simp] theorem State.raise_rst (code : ErrCode) (info : Word) : (s.raise code info).rst = s.rst := rfl
@[simp] theorem State.raise_inputs (code : ErrCode) (info : Word) : (s.raise code info).inputs = s.inputs := rfl
@[simp] theorem State.raise_reads (code : ErrCode) (info : Word) : (s.raise code info).reads = s.reads := rfl
@[simp] theorem State.raise_sent (code : ErrCode) (info : Word) : (s.raise code info).sent = s.sent := rfl
@[simp] theorem State.raise_draws (code : ErrCode) (info : Word) : (s.raise code info).draws = s.draws := rfl

/-! ### State.accept -/

@[simp] theorem State.accept_dropped (w : Word) : (s.accept w).dropped = s.dropped := rfl
@[simp] theorem State.accept_errCode (w : Word) : (s.accept w).errCode = .noError := rfl
@[simp] theorem State.accept_lastCmd (w : Word) : (s.accept w).lastCmd = opcOf w := rfl
@[simp] theorem State.accept_errInfo (w : Word) : (s.accept w).errInfo = 0#32 := rfl
@[simp] theorem State.accept_gfA (w : Word) : (s.accept w).gfA = s.gfA := rfl
@[simp] theorem State.accept_gfB (w : Word) : (s.accept w).gfB = s.gfB := rfl
@[simp] theorem State.accept_gfR (w : Word) : (s.accept w).gfR = s.gfR := rfl
@[simp] theorem State.accept_rsLen (w : Word) : (s.accept w).rsLen = s.rsLen := rfl
@[simp] theorem State.accept_rsDeg (w : Word) : (s.accept w).rsDeg = s.rsDeg := rfl
@[simp] theorem State.accept_textLen (w : Word) : (s.accept w).textLen = s.textLen := rfl
@[simp] theorem State.accept_scale (w : Word) : (s.accept w).scale = s.scale := rfl
@[simp] theorem State.accept_pad (w : Word) : (s.accept w).pad = s.pad := rfl
@[simp] theorem State.accept_outCount (w : Word) : (s.accept w).outCount = if clearsOutCount w then 0#32 else s.outCount := rfl
@[simp] theorem State.accept_tables (w : Word) : (s.accept w).tables = s.tables := rfl
@[simp] theorem State.accept_gen (w : Word) : (s.accept w).gen = s.gen := rfl
@[simp] theorem State.accept_text (w : Word) : (s.accept w).text = s.text := rfl
@[simp] theorem State.accept_cw (w : Word) : (s.accept w).cw = s.cw := rfl
@[simp] theorem State.accept_matrix (w : Word) : (s.accept w).matrix = s.matrix := rfl
@[simp] theorem State.accept_seq (w : Word) : (s.accept w).seq = .busy w := rfl
@[simp] theorem State.accept_rst (w : Word) : (s.accept w).rst = s.rst := rfl
@[simp] theorem State.accept_inputs (w : Word) : (s.accept w).inputs = s.inputs := rfl
@[simp] theorem State.accept_reads (w : Word) : (s.accept w).reads = s.reads := rfl
@[simp] theorem State.accept_sent (w : Word) : (s.accept w).sent = s.sent := rfl
@[simp] theorem State.accept_draws (w : Word) : (s.accept w).draws = s.draws := rfl

/-! ### State.tick -/

@[simp] theorem State.tick_dropped : (s.tick).dropped = s.dropped := rfl
@[simp] theorem State.tick_errCode : (s.tick).errCode = s.errCode := rfl
@[simp] theorem State.tick_lastCmd : (s.tick).lastCmd = s.lastCmd := rfl
@[simp] theorem State.tick_errInfo : (s.tick).errInfo = s.errInfo := rfl
@[simp] theorem State.tick_gfA : (s.tick).gfA = s.gfA := rfl
@[simp] theorem State.tick_gfB : (s.tick).gfB = s.gfB := rfl
@[simp] theorem State.tick_gfR : (s.tick).gfR = s.gfR := rfl
@[simp] theorem State.tick_rsLen : (s.tick).rsLen = s.rsLen := rfl
@[simp] theorem State.tick_rsDeg : (s.tick).rsDeg = s.rsDeg := rfl
@[simp] theorem State.tick_textLen : (s.tick).textLen = s.textLen := rfl
@[simp] theorem State.tick_scale : (s.tick).scale = s.scale := rfl
@[simp] theorem State.tick_pad : (s.tick).pad = s.pad := rfl
@[simp] theorem State.tick_outCount : (s.tick).outCount = s.outCount := rfl
@[simp] theorem State.tick_tables : (s.tick).tables = s.tables := rfl
@[simp] theorem State.tick_gen : (s.tick).gen = s.gen := rfl
@[simp] theorem State.tick_text : (s.tick).text = s.text := rfl
@[simp] theorem State.tick_cw : (s.tick).cw = s.cw := rfl
@[simp] theorem State.tick_matrix : (s.tick).matrix = s.matrix := rfl
@[simp] theorem State.tick_seq : (s.tick).seq = s.seq := rfl
@[simp] theorem State.tick_rst : (s.tick).rst = s.rst := rfl
@[simp] theorem State.tick_inputs : (s.tick).inputs = s.inputs.tail := rfl
@[simp] theorem State.tick_reads : (s.tick).reads = s.reads := rfl
@[simp] theorem State.tick_sent : (s.tick).sent = s.sent := rfl
@[simp] theorem State.tick_draws : (s.tick).draws = s.draws + 1 := rfl

/-! ### State.drop -/

@[simp] theorem State.drop_dropped : (s.drop).dropped = true := rfl
@[simp] theorem State.drop_errCode : (s.drop).errCode = s.errCode := rfl
@[simp] theorem State.drop_lastCmd : (s.drop).lastCmd = s.lastCmd := rfl
@[simp] theorem State.drop_errInfo : (s.drop).errInfo = s.errInfo := rfl
@[simp] theorem State.drop_gfA : (s.drop).gfA = s.gfA := rfl
@[simp] theorem State.drop_gfB : (s.drop).gfB = s.gfB := rfl
@[simp] theorem State.drop_gfR : (s.drop).gfR = s.gfR := rfl
@[simp] theorem State.drop_rsLen : (s.drop).rsLen = s.rsLen := rfl
@[simp] theorem State.drop_rsDeg : (s.drop).rsDeg = s.rsDeg := rfl
@[simp] theorem State.drop_textLen : (s.drop).textLen = s.textLen := rfl
@[simp] theorem State.drop_scale : (s.drop).scale = s.scale := rfl
@[simp] theorem State.drop_pad : (s.drop).pad = s.pad := rfl
@[simp] theorem State.drop_outCount : (s.drop).outCount = s.outCount := rfl
@[simp] theorem State.drop_tables : (s.drop).tables = s.tables := rfl
@[simp] theorem State.drop_gen : (s.drop).gen = s.gen := rfl
@[simp] theorem State.drop_text : (s.drop).text = s.text := rfl
@[simp] theorem State.drop_cw : (s.drop).cw = s.cw := rfl
@[simp] theorem State.drop_matrix : (s.drop).matrix = s.matrix := rfl
@[simp] theorem State.drop_seq : (s.drop).seq = s.seq := rfl
@[simp] theorem State.drop_rst : (s.drop).rst = s.rst := rfl
@[simp] theorem State.drop_inputs : (s.drop).inputs = s.inputs := rfl
@[simp] theorem State.drop_reads : (s.drop).reads = s.reads := rfl
@[simp] theorem State.drop_sent : (s.drop).sent = s.sent := rfl
@[simp] theorem State.drop_draws : (s.drop).draws = s.draws := rfl

/-! ### State.writeStatus -/

@[simp] theorem State.writeStatus_dropped (v : Word) : (s.writeStatus v).dropped = (s.dropped && !v.getLsbD 3) := rfl
@[simp] theorem State.writeStatus_errCode (v : Word) : (s.writeStatus v).errCode = s.errCode := rfl
@[simp] theorem State.writeStatus_lastCmd (v : Word) : (s.writeStatus v).lastCmd = s.lastCmd := rfl
@[simp] theorem State.writeStatus_errInfo (v : Word) : (s.writeStatus v).errInfo = s.errInfo := rfl
@[simp] theorem State.writeStatus_gfA (v : Word) : (s.writeStatus v).gfA = s.gfA := rfl
@[simp] theorem State.writeStatus_gfB (v : Word) : (s.writeStatus v).gfB = s.gfB := rfl
@[simp] theorem State.writeStatus_gfR (v : Word) : (s.writeStatus v).gfR = s.gfR := rfl
@[simp] theorem State.writeStatus_rsLen (v : Word) : (s.writeStatus v).rsLen = s.rsLen := rfl
@[simp] theorem State.writeStatus_rsDeg (v : Word) : (s.writeStatus v).rsDeg = s.rsDeg := rfl
@[simp] theorem State.writeStatus_textLen (v : Word) : (s.writeStatus v).textLen = s.textLen := rfl
@[simp] theorem State.writeStatus_scale (v : Word) : (s.writeStatus v).scale = s.scale := rfl
@[simp] theorem State.writeStatus_pad (v : Word) : (s.writeStatus v).pad = s.pad := rfl
@[simp] theorem State.writeStatus_outCount (v : Word) : (s.writeStatus v).outCount = s.outCount := rfl
@[simp] theorem State.writeStatus_tables (v : Word) : (s.writeStatus v).tables = s.tables := rfl
@[simp] theorem State.writeStatus_gen (v : Word) : (s.writeStatus v).gen = s.gen := rfl
@[simp] theorem State.writeStatus_text (v : Word) : (s.writeStatus v).text = s.text := rfl
@[simp] theorem State.writeStatus_cw (v : Word) : (s.writeStatus v).cw = s.cw := rfl
@[simp] theorem State.writeStatus_matrix (v : Word) : (s.writeStatus v).matrix = s.matrix := rfl
@[simp] theorem State.writeStatus_seq (v : Word) : (s.writeStatus v).seq = s.seq := rfl
@[simp] theorem State.writeStatus_rst (v : Word) : (s.writeStatus v).rst = s.rst := rfl
@[simp] theorem State.writeStatus_inputs (v : Word) : (s.writeStatus v).inputs = s.inputs := rfl
@[simp] theorem State.writeStatus_reads (v : Word) : (s.writeStatus v).reads = s.reads := rfl
@[simp] theorem State.writeStatus_sent (v : Word) : (s.writeStatus v).sent = s.sent := rfl
@[simp] theorem State.writeStatus_draws (v : Word) : (s.writeStatus v).draws = s.draws := rfl

/-! ### State.assertReset -/

@[simp] theorem State.assertReset_dropped : (s.assertReset).dropped = State.reset.dropped := rfl
@[simp] theorem State.assertReset_errCode : (s.assertReset).errCode = State.reset.errCode := rfl
@[simp] theorem State.assertReset_lastCmd : (s.assertReset).lastCmd = State.reset.lastCmd := rfl
@[simp] theorem State.assertReset_errInfo : (s.assertReset).errInfo = State.reset.errInfo := rfl
@[simp] theorem State.assertReset_gfA : (s.assertReset).gfA = State.reset.gfA := rfl
@[simp] theorem State.assertReset_gfB : (s.assertReset).gfB = State.reset.gfB := rfl
@[simp] theorem State.assertReset_gfR : (s.assertReset).gfR = State.reset.gfR := rfl
@[simp] theorem State.assertReset_rsLen : (s.assertReset).rsLen = State.reset.rsLen := rfl
@[simp] theorem State.assertReset_rsDeg : (s.assertReset).rsDeg = State.reset.rsDeg := rfl
@[simp] theorem State.assertReset_textLen : (s.assertReset).textLen = State.reset.textLen := rfl
@[simp] theorem State.assertReset_scale : (s.assertReset).scale = State.reset.scale := rfl
@[simp] theorem State.assertReset_pad : (s.assertReset).pad = State.reset.pad := rfl
@[simp] theorem State.assertReset_outCount : (s.assertReset).outCount = State.reset.outCount := rfl
@[simp] theorem State.assertReset_tables : (s.assertReset).tables = State.reset.tables := rfl
@[simp] theorem State.assertReset_gen : (s.assertReset).gen = State.reset.gen := rfl
@[simp] theorem State.assertReset_text : (s.assertReset).text = State.reset.text := rfl
@[simp] theorem State.assertReset_cw : (s.assertReset).cw = State.reset.cw := rfl
@[simp] theorem State.assertReset_matrix : (s.assertReset).matrix = State.reset.matrix := rfl
@[simp] theorem State.assertReset_seq : (s.assertReset).seq = State.reset.seq := rfl
@[simp] theorem State.assertReset_rst : (s.assertReset).rst = true := rfl
@[simp] theorem State.assertReset_inputs : (s.assertReset).inputs = s.inputs := rfl
@[simp] theorem State.assertReset_reads : (s.assertReset).reads = s.reads := rfl
@[simp] theorem State.assertReset_sent : (s.assertReset).sent = s.sent := rfl
@[simp] theorem State.assertReset_draws : (s.assertReset).draws = s.draws := rfl

/-! ### State.deassertReset -/

@[simp] theorem State.deassertReset_dropped : (s.deassertReset).dropped = s.dropped := rfl
@[simp] theorem State.deassertReset_errCode : (s.deassertReset).errCode = s.errCode := rfl
@[simp] theorem State.deassertReset_lastCmd : (s.deassertReset).lastCmd = s.lastCmd := rfl
@[simp] theorem State.deassertReset_errInfo : (s.deassertReset).errInfo = s.errInfo := rfl
@[simp] theorem State.deassertReset_gfA : (s.deassertReset).gfA = s.gfA := rfl
@[simp] theorem State.deassertReset_gfB : (s.deassertReset).gfB = s.gfB := rfl
@[simp] theorem State.deassertReset_gfR : (s.deassertReset).gfR = s.gfR := rfl
@[simp] theorem State.deassertReset_rsLen : (s.deassertReset).rsLen = s.rsLen := rfl
@[simp] theorem State.deassertReset_rsDeg : (s.deassertReset).rsDeg = s.rsDeg := rfl
@[simp] theorem State.deassertReset_textLen : (s.deassertReset).textLen = s.textLen := rfl
@[simp] theorem State.deassertReset_scale : (s.deassertReset).scale = s.scale := rfl
@[simp] theorem State.deassertReset_pad : (s.deassertReset).pad = s.pad := rfl
@[simp] theorem State.deassertReset_outCount : (s.deassertReset).outCount = s.outCount := rfl
@[simp] theorem State.deassertReset_tables : (s.deassertReset).tables = s.tables := rfl
@[simp] theorem State.deassertReset_gen : (s.deassertReset).gen = s.gen := rfl
@[simp] theorem State.deassertReset_text : (s.deassertReset).text = s.text := rfl
@[simp] theorem State.deassertReset_cw : (s.deassertReset).cw = s.cw := rfl
@[simp] theorem State.deassertReset_matrix : (s.deassertReset).matrix = s.matrix := rfl
@[simp] theorem State.deassertReset_seq : (s.deassertReset).seq = s.seq := rfl
@[simp] theorem State.deassertReset_rst : (s.deassertReset).rst = false := rfl
@[simp] theorem State.deassertReset_inputs : (s.deassertReset).inputs = s.inputs := rfl
@[simp] theorem State.deassertReset_reads : (s.deassertReset).reads = s.reads := rfl
@[simp] theorem State.deassertReset_sent : (s.deassertReset).sent = s.sent := rfl
@[simp] theorem State.deassertReset_draws : (s.deassertReset).draws = s.draws := rfl

/-! ### State.busRead -/

@[simp] theorem State.busRead_dropped (addr : BitVec 16) : (s.busRead addr).dropped = s.dropped := rfl
@[simp] theorem State.busRead_errCode (addr : BitVec 16) : (s.busRead addr).errCode = s.errCode := rfl
@[simp] theorem State.busRead_lastCmd (addr : BitVec 16) : (s.busRead addr).lastCmd = s.lastCmd := rfl
@[simp] theorem State.busRead_errInfo (addr : BitVec 16) : (s.busRead addr).errInfo = s.errInfo := rfl
@[simp] theorem State.busRead_gfA (addr : BitVec 16) : (s.busRead addr).gfA = s.gfA := rfl
@[simp] theorem State.busRead_gfB (addr : BitVec 16) : (s.busRead addr).gfB = s.gfB := rfl
@[simp] theorem State.busRead_gfR (addr : BitVec 16) : (s.busRead addr).gfR = s.gfR := rfl
@[simp] theorem State.busRead_rsLen (addr : BitVec 16) : (s.busRead addr).rsLen = s.rsLen := rfl
@[simp] theorem State.busRead_rsDeg (addr : BitVec 16) : (s.busRead addr).rsDeg = s.rsDeg := rfl
@[simp] theorem State.busRead_textLen (addr : BitVec 16) : (s.busRead addr).textLen = s.textLen := rfl
@[simp] theorem State.busRead_scale (addr : BitVec 16) : (s.busRead addr).scale = s.scale := rfl
@[simp] theorem State.busRead_pad (addr : BitVec 16) : (s.busRead addr).pad = s.pad := rfl
@[simp] theorem State.busRead_outCount (addr : BitVec 16) : (s.busRead addr).outCount = s.outCount := rfl
@[simp] theorem State.busRead_tables (addr : BitVec 16) : (s.busRead addr).tables = s.tables := rfl
@[simp] theorem State.busRead_gen (addr : BitVec 16) : (s.busRead addr).gen = s.gen := rfl
@[simp] theorem State.busRead_text (addr : BitVec 16) : (s.busRead addr).text = s.text := rfl
@[simp] theorem State.busRead_cw (addr : BitVec 16) : (s.busRead addr).cw = s.cw := rfl
@[simp] theorem State.busRead_matrix (addr : BitVec 16) : (s.busRead addr).matrix = s.matrix := rfl
@[simp] theorem State.busRead_seq (addr : BitVec 16) : (s.busRead addr).seq = s.seq := rfl
@[simp] theorem State.busRead_rst (addr : BitVec 16) : (s.busRead addr).rst = s.rst := rfl
@[simp] theorem State.busRead_inputs (addr : BitVec 16) : (s.busRead addr).inputs = s.inputs := rfl
@[simp] theorem State.busRead_reads (addr : BitVec 16) : (s.busRead addr).reads = ⟨addr, s.readWord addr⟩ :: s.reads := rfl
@[simp] theorem State.busRead_sent (addr : BitVec 16) : (s.busRead addr).sent = s.sent := rfl
@[simp] theorem State.busRead_draws (addr : BitVec 16) : (s.busRead addr).draws = s.draws := rfl

/-! ### State.rsCode -/

@[simp] theorem State.rsCode_dropped (l k : Nat) : (s.rsCode l k).dropped = s.dropped := rfl
@[simp] theorem State.rsCode_errCode (l k : Nat) : (s.rsCode l k).errCode = s.errCode := rfl
@[simp] theorem State.rsCode_lastCmd (l k : Nat) : (s.rsCode l k).lastCmd = s.lastCmd := rfl
@[simp] theorem State.rsCode_errInfo (l k : Nat) : (s.rsCode l k).errInfo = s.errInfo := rfl
@[simp] theorem State.rsCode_gfA (l k : Nat) : (s.rsCode l k).gfA = s.gfA := rfl
@[simp] theorem State.rsCode_gfB (l k : Nat) : (s.rsCode l k).gfB = s.gfB := rfl
@[simp] theorem State.rsCode_gfR (l k : Nat) : (s.rsCode l k).gfR = s.gfR := rfl
@[simp] theorem State.rsCode_rsLen (l k : Nat) : (s.rsCode l k).rsLen = s.rsLen := rfl
@[simp] theorem State.rsCode_rsDeg (l k : Nat) : (s.rsCode l k).rsDeg = s.rsDeg := rfl
@[simp] theorem State.rsCode_textLen (l k : Nat) : (s.rsCode l k).textLen = s.textLen := rfl
@[simp] theorem State.rsCode_scale (l k : Nat) : (s.rsCode l k).scale = s.scale := rfl
@[simp] theorem State.rsCode_pad (l k : Nat) : (s.rsCode l k).pad = s.pad := rfl
@[simp] theorem State.rsCode_outCount (l k : Nat) : (s.rsCode l k).outCount = s.outCount := rfl
@[simp] theorem State.rsCode_tables (l k : Nat) : (s.rsCode l k).tables = s.tables := rfl
@[simp] theorem State.rsCode_gen (l k : Nat) : (s.rsCode l k).gen = genOf (generator s.tables k) := rfl
@[simp] theorem State.rsCode_text (l k : Nat) : (s.rsCode l k).text = s.text := rfl
@[simp] theorem State.rsCode_cw (l k : Nat) :
    (s.rsCode l k).cw = Memory.writeList s.cw l (remainder s.tables (s.cwPrefix l) k) := rfl
@[simp] theorem State.rsCode_matrix (l k : Nat) : (s.rsCode l k).matrix = s.matrix := rfl
@[simp] theorem State.rsCode_seq (l k : Nat) : (s.rsCode l k).seq = s.seq := rfl
@[simp] theorem State.rsCode_rst (l k : Nat) : (s.rsCode l k).rst = s.rst := rfl
@[simp] theorem State.rsCode_inputs (l k : Nat) : (s.rsCode l k).inputs = s.inputs := rfl
@[simp] theorem State.rsCode_reads (l k : Nat) : (s.rsCode l k).reads = s.reads := rfl
@[simp] theorem State.rsCode_sent (l k : Nat) : (s.rsCode l k).sent = s.sent := rfl
@[simp] theorem State.rsCode_draws (l k : Nat) : (s.rsCode l k).draws = s.draws := rfl

/-! ### State.transfer -/

@[simp] theorem State.transfer_dropped (p : RenderPos) : (s.transfer p).dropped = s.dropped := rfl
@[simp] theorem State.transfer_errCode (p : RenderPos) : (s.transfer p).errCode = s.errCode := rfl
@[simp] theorem State.transfer_lastCmd (p : RenderPos) : (s.transfer p).lastCmd = s.lastCmd := rfl
@[simp] theorem State.transfer_errInfo (p : RenderPos) : (s.transfer p).errInfo = s.errInfo := rfl
@[simp] theorem State.transfer_gfA (p : RenderPos) : (s.transfer p).gfA = s.gfA := rfl
@[simp] theorem State.transfer_gfB (p : RenderPos) : (s.transfer p).gfB = s.gfB := rfl
@[simp] theorem State.transfer_gfR (p : RenderPos) : (s.transfer p).gfR = s.gfR := rfl
@[simp] theorem State.transfer_rsLen (p : RenderPos) : (s.transfer p).rsLen = s.rsLen := rfl
@[simp] theorem State.transfer_rsDeg (p : RenderPos) : (s.transfer p).rsDeg = s.rsDeg := rfl
@[simp] theorem State.transfer_textLen (p : RenderPos) : (s.transfer p).textLen = s.textLen := rfl
@[simp] theorem State.transfer_scale (p : RenderPos) : (s.transfer p).scale = s.scale := rfl
@[simp] theorem State.transfer_pad (p : RenderPos) : (s.transfer p).pad = s.pad := rfl
@[simp] theorem State.transfer_outCount (p : RenderPos) : (s.transfer p).outCount = s.outCount + 1#32 := rfl
@[simp] theorem State.transfer_tables (p : RenderPos) : (s.transfer p).tables = s.tables := rfl
@[simp] theorem State.transfer_gen (p : RenderPos) : (s.transfer p).gen = s.gen := rfl
@[simp] theorem State.transfer_text (p : RenderPos) : (s.transfer p).text = s.text := rfl
@[simp] theorem State.transfer_cw (p : RenderPos) : (s.transfer p).cw = s.cw := rfl
@[simp] theorem State.transfer_matrix (p : RenderPos) : (s.transfer p).matrix = s.matrix := rfl
@[simp] theorem State.transfer_rst (p : RenderPos) : (s.transfer p).rst = s.rst := rfl
@[simp] theorem State.transfer_inputs (p : RenderPos) : (s.transfer p).inputs = s.inputs := rfl
@[simp] theorem State.transfer_reads (p : RenderPos) : (s.transfer p).reads = s.reads := rfl
@[simp] theorem State.transfer_sent (p : RenderPos) :
    (s.transfer p).sent = ⟨p.offered, decide (p.pos = 0), p.rest.isEmpty⟩ :: s.sent := rfl
@[simp] theorem State.transfer_draws (p : RenderPos) : (s.transfer p).draws = s.draws := rfl

/-- After a transfer the next byte is on the port, or the command has ended (spec/44_render.md R217, R221). -/
theorem State.transfer_seq (p : RenderPos) :
    (s.transfer p).seq =
      match p.rest with
      | [] => .idle
      | b :: bs => .stream ⟨p.pos + 1, b, bs⟩ := rfl

end Sys2Proof.Machine
end

