-- ==== Sys2Proof/Laws/Commands.lean ====
section
/-! SUPPORT. For each shared operation, once, everything it can do: the stages of the commands, the bus, the sink,
a turn of the core, a step. -/

namespace Sys2Proof.Machine

/-! ### Stages -/

@[simp] theorem Stage.andThen_done (s : State) (f : State → Stage) : (Stage.done s).andThen f = f s := rfl

@[simp] theorem Stage.andThen_ended (s : State) (f : State → Stage) : (Stage.ended s).andThen f = .ended s := rfl

@[simp] theorem Stage.finish_done (s : State) : (Stage.done s).finish = s.endCommand := rfl

@[simp] theorem Stage.finish_ended (s : State) : (Stage.ended s).finish = s := rfl

/-- RS_GEN: out of range and GEN unchanged, or GEN written (spec/41_reed_solomon.md R134). -/
theorem rsGenStage_cases (s : State) :
    (32 < s.opK ∧ rsGenStage s = .ended (s.raise .operandRange s.rangeInfo)) ∨
      (s.opK ≤ 32 ∧ rsGenStage s = .done { s with gen := genOf (generator s.tables s.opK) }) := by
  unfold rsGenStage
  split
  · next h => exact .inl ⟨h, rfl⟩
  · next h => exact .inr ⟨by omega, rfl⟩

/-- RS_REM: out of range and nothing written, or GEN and CW written (spec/41_reed_solomon.md R135). -/
theorem rsRemStage_cases (s : State) :
    ((32 < s.opK ∨ 128 < s.opL + s.opK) ∧ rsRemStage s = .ended (s.raise .operandRange s.rangeInfo)) ∨
      (s.opK ≤ 32 ∧ s.opL + s.opK ≤ 128 ∧ rsRemStage s = .done (s.rsCode s.opL s.opK)) := by
  unfold rsRemStage
  split
  · next h => exact .inl ⟨by omega, rfl⟩
  · next h => exact .inr ⟨by omega, by omega, rfl⟩

/-- ENCODE: over capacity exactly when n > 53, and CW unchanged then; else CW written (spec/42_bitstream.md R151,
R156). -/
theorem encodeStage_cases (s : State) :
    (53 < s.opN ∧
        encodeStage s = .ended (s.raise .capacityExceeded (BitVec.ofNat 32 (neededBits s.opN)))) ∨
      (s.opN ≤ 53 ∧
        encodeStage s =
          .done { s with cw := Memory.writeList s.cw 0 (dataCodewords s.textLen (s.textPrefix s.opN)) }) := by
  unfold encodeStage
  split
  · next h => exact .inl ⟨by simp only [neededBits, capacityBits] at h; omega, rfl⟩
  · next h => exact .inr ⟨by simp only [neededBits, capacityBits] at h; omega, rfl⟩

/-- BUILD: MATRIX written, or a check failed (spec/43_matrix.md R171, R189). -/
theorem buildStage_cases (s : State) :
    (∃ m, buildMatrix (s.cwPrefix 70) = .ok m ∧ buildStage s = .done { s with matrix := m }) ∨
      (∃ f, buildMatrix (s.cwPrefix 70) = .fault f ∧
        buildStage s = .ended (State.raise { s with matrix := s.freeMatrix } .internalInvariant f.info)) := by
  unfold buildStage
  cases h : buildMatrix (s.cwPrefix 70) with
  | ok m => exact .inl ⟨m, rfl, rfl⟩
  | fault f => exact .inr ⟨f, rfl, rfl⟩

/-- No document is the empty sequence of bytes (spec/44_render.md R213). -/
theorem document_ne_nil (m : ModuleMatrix) (s p : Nat) : document m s p ≠ [] := by
  simp [document, docTrailer]

/-- The render stage: a bad dimension, an incomplete matrix, or the document's first byte on the port
(spec/44_render.md R211, R216, R221). -/
theorem renderStage_cases (s : State) :
    (dimensionError s.opScale s.opPad ≠ 0#32 ∧
        s.renderStage = s.raise .invalidDimension (dimensionError s.opScale s.opPad)) ∨
      (dimensionError s.opScale s.opPad = 0#32 ∧
        ((∃ r c, firstUnset s.matrix = some (r, c) ∧ s.renderStage = s.raise .matrixIncomplete (coordInfo r c)) ∨
          (firstUnset s.matrix = none ∧
            ∃ b bs, s.doc = b :: bs ∧ s.renderStage = { s with seq := .stream ⟨0, b, bs⟩ }))) := by
  unfold State.renderStage
  split
  · next h => exact .inl ⟨h, rfl⟩
  · next h =>
    refine .inr ⟨by simpa using h, ?_⟩
    cases hu : firstUnset s.matrix with
    | some p => exact .inl ⟨p.1, p.2, rfl, rfl⟩
    | none =>
      refine .inr ⟨rfl, ?_⟩
      cases hd : s.doc with
      | nil => exact absurd hd (document_ne_nil _ _ _)
      | cons b bs =>
        refine ⟨b, bs, rfl, ?_⟩
        have : document s.matrix s.opScale.toNat s.opPad.toNat = b :: bs := hd
        simp [this, State.startStream]

/-! ### Commands -/

/-- Every command answers a next state: no error stops the block (spec/60_exceptions.md R240). -/
theorem exec_next (i : Instr) (s : State) : ∃ t, exec i s = .next t := by
  cases i <;> exact ⟨_, rfl⟩

/-! ### The bus and the sink -/

/-- A host write: without effect under rst, a STATUS write, a CMD write, dropped while BUSY, or performed
(spec/20_memory.md R61). -/
theorem busWrite_cases (s : State) (a : BitVec 16) (v : Word) :
    (s.rst = true ∧ s.busWrite a v = s) ∨
      (s.rst = false ∧
        ((locate a = .status ∧ s.busWrite a v = s.writeStatus v) ∨
          (locate a = .cmd ∧ s.busWrite a v = s.offerCommand v) ∨
          (locate a ≠ .status ∧ locate a ≠ .cmd ∧ s.isBusy = true ∧ s.busWrite a v = s.drop) ∨
          (locate a ≠ .status ∧ locate a ≠ .cmd ∧ s.isBusy = false ∧
            s.busWrite a v = s.writeLoc (locate a) v))) := by
  unfold State.busWrite
  cases hr : s.rst with
  | true => exact .inl ⟨rfl, rfl⟩
  | false => cases hb : s.isBusy <;> cases hl : locate a <;> simp

/-- A CMD write: accepted when READY = 1 and BUSY = 0, which is seq = IDLE, else dropped (spec/60_exceptions.md
R250). -/
theorem offerCommand_cases (s : State) (w : Word) :
    (s.seq = .idle ∧ s.offerCommand w = s.accept w) ∨ (s.seq ≠ .idle ∧ s.offerCommand w = s.drop) := by
  unfold State.offerCommand State.isReady State.isBusy
  cases hs : s.seq <;> simp

/-- A sink cycle: nothing outside a streaming render; a failure, a transfer, or a hold while streaming
(spec/44_render.md R217, R219). -/
theorem sinkCycle_cases (s : State) (ready err : Bool) :
    ((∀ p, s.seq ≠ .stream p) ∧ s.sinkCycle ready err = s) ∨
      (∃ p, s.seq = .stream p ∧
        ((err = true ∧ s.sinkCycle ready err = s.raise .ioFailure s.outCount) ∨
          (err = false ∧ ready = true ∧ s.sinkCycle ready err = s.transfer p) ∨
          (err = false ∧ ready = false ∧ s.sinkCycle ready err = s))) := by
  unfold State.sinkCycle
  cases hs : s.seq <;> cases err <;> cases ready <;> simp

/-! ### Steps -/

theorem step_eq_of_nil {s : State} (h : s.inputs = []) : step s = coreTurn s.tick := by simp [step, stepOf, h]

theorem step_eq_of_cons {s : State} {e : Input} {es : List Input} (h : s.inputs = e :: es) :
    step s = handleInput e s.tick := by simp [step, stepOf, h]

/-- A turn of the core: nothing, a turn of initialisation, an illegal word, or a command. -/
theorem coreTurn_cases {s t : State} (h : coreTurn s = .next t) :
    t = s ∨
      (∃ p, s.rst = false ∧ s.seq = .init p ∧ t = s.initStep p) ∨
      (∃ w e, s.rst = false ∧ s.seq = .busy w ∧ decode w = .error e ∧ t = s.raise .illegalCommand w) ∨
      (∃ w i, s.rst = false ∧ s.seq = .busy w ∧ decode w = .ok i ∧ exec i s = .next t) := by
  unfold coreTurn at h
  cases hr : s.rst with
  | true => rw [hr] at h; cases h; exact .inl rfl
  | false =>
    rw [hr] at h
    cases hs : s.seq with
    | init p => rw [hs] at h; cases h; exact .inr (.inl ⟨p, rfl, rfl, rfl⟩)
    | busy w =>
      rw [hs] at h
      simp only [Bool.false_eq_true, if_false, runAccepted] at h
      cases hd : decode w with
      | ok i => rw [hd] at h; exact .inr (.inr (.inr ⟨w, i, rfl, rfl, hd, h⟩))
      | error e => rw [hd] at h; cases h; exact .inr (.inr (.inl ⟨w, e, rfl, rfl, hd, rfl⟩))
    | initFailed => rw [hs] at h; cases h; exact .inl rfl
    | idle => rw [hs] at h; cases h; exact .inl rfl
    | stream p => rw [hs] at h; cases h; exact .inl rfl

/-- A step: the core's turn, a read, a write, a sink cycle, or a move of rst; each from the state with the next move
taken and the step numbered (`tick`). -/
theorem step_cases {s t : State} (h : step s = .next t) :
    coreTurn s.tick = .next t ∨
      (∃ a, t = s.tick.busRead a) ∨
      (∃ a v, t = s.tick.busWrite a v) ∨
      (∃ r e, s.rst = false ∧ t = s.tick.sinkCycle r e) ∨
      t = s.tick ∨ t = s.tick.assertReset ∨ t = s.tick.deassertReset := by
  cases hi : s.inputs with
  | nil => exact .inl (step_eq_of_nil hi ▸ h)
  | cons e es =>
    rw [step_eq_of_cons hi] at h
    cases e with
    | core => exact .inl h
    | read a => cases h; exact .inr (.inl ⟨a, rfl⟩)
    | write a v => cases h; exact .inr (.inr (.inl ⟨a, v, rfl⟩))
    | sink r e =>
      cases hr : s.rst with
      | true => simp [handleInput, hr] at h; exact .inr (.inr (.inr (.inr (.inl h.symm))))
      | false => simp [handleInput, hr] at h; exact .inr (.inr (.inr (.inl ⟨r, e, rfl, h.symm⟩)))
    | reset l =>
      cases l with
      | true => cases h; exact .inr (.inr (.inr (.inr (.inr (.inl rfl)))))
      | false => cases h; exact .inr (.inr (.inr (.inr (.inr (.inr rfl)))))

end Sys2Proof.Machine
end

