-- ==== Sys2Proof/Laws/Matrix.lean ====
section
/-! SUPPORT. The laws of the matrix accessors and of the chaining of phases. -/

namespace Sys2Proof.Machine

/-- A cell read after a cell write: the written cell, or the old one elsewhere. -/
theorem ModuleMatrix.get_set (m : ModuleMatrix) (r c r' c' : Fin 29) (x : Cell) :
    (m.set r c x).get r' c' = if r = r' ∧ c = c' then x else m.get r' c' := by
  unfold ModuleMatrix.get ModuleMatrix.set
  simp only [Vector.get_eq_getElem, Vector.getElem_set, Fin.val_inj]
  by_cases hr : r = r'
  · subst hr
    simp only [true_and, if_true, Vector.getElem_set, Fin.val_inj]
  · simp [hr]

@[simp] theorem ModuleMatrix.get_set_same (m : ModuleMatrix) (r c : Fin 29) (x : Cell) :
    (m.set r c x).get r c = x := by simp [ModuleMatrix.get_set]

theorem ModuleMatrix.get_set_other (m : ModuleMatrix) {r c r' c' : Fin 29} (x : Cell) (h : ¬ (r = r' ∧ c = c')) :
    (m.set r c x).get r' c' = m.get r' c' := by simp [ModuleMatrix.get_set, h]

@[simp] theorem ModuleMatrix.get_allUnset (r c : Fin 29) : ModuleMatrix.allUnset.get r c = ⟨.unset, false⟩ := by
  simp [ModuleMatrix.get, ModuleMatrix.allUnset, Vector.get_eq_getElem]

/-- Two matrices with the same cells are the same. -/
theorem ModuleMatrix.ext_get {m m' : ModuleMatrix} (h : ∀ r c, m.get r c = m'.get r c) : m = m' := by
  ext r hr c hc
  simpa [ModuleMatrix.get, Vector.get_eq_getElem] using h ⟨r, hr⟩ ⟨c, hc⟩

/-- Row-major order lists every coordinate. -/
theorem mem_allCells (p : Fin 29 × Fin 29) : p ∈ allCells := by
  obtain ⟨r, c⟩ := p
  simp [allCells]

@[simp] theorem Built.andThen_ok (m : ModuleMatrix) (f : ModuleMatrix → Built) : (Built.ok m).andThen f = f m := rfl

@[simp] theorem Built.andThen_fault (e : BuildFault) (f : ModuleMatrix → Built) :
    (Built.fault e).andThen f = .fault e := rfl

/-- A chain of phases passes exactly when its first part passes and the second does from there. -/
theorem Built.andThen_eq_ok {b : Built} {f : ModuleMatrix → Built} {m : ModuleMatrix} :
    b.andThen f = .ok m ↔ ∃ m', b = .ok m' ∧ f m' = .ok m := by
  cases b with
  | ok m' => simp
  | fault e => simp

end Sys2Proof.Machine
end

