-- ==== Sys2Proof/Laws/Memory.lean ====
section
/-! SUPPORT. The laws of the RAM operations: a read after a write, and the canonical form every operation keeps. -/

namespace Sys2Proof.Machine

@[simp] theorem Memory.read_nil (a : Nat) : Memory.read [] a = none := rfl

@[simp] theorem Memory.read_write_same (m : Memory) (a : Nat) (b : Byte) :
    Memory.read (Memory.write m a b) a = some b := by
  induction m with
  | nil => simp [Memory.write, Memory.read]
  | cons e m ih =>
    obtain ⟨k, v⟩ := e
    unfold Memory.write
    split
    · simp [Memory.read]
    · split
      · simp [Memory.read]
      · have hk : k ≠ a := fun h => by omega
        simp [Memory.read, hk, ih]

theorem Memory.read_write_other (m : Memory) {a a' : Nat} (b : Byte) (h : a' ≠ a) :
    Memory.read (Memory.write m a b) a' = Memory.read m a' := by
  induction m with
  | nil => simp [Memory.write, Memory.read, h.symm]
  | cons e m ih =>
    obtain ⟨k, v⟩ := e
    unfold Memory.write
    split
    · simp [Memory.read, h.symm]
    · split
      · next hk =>
        have : k ≠ a' := fun hh => h (by omega)
        simp [Memory.read, h.symm, this]
      · simp [Memory.read, ih]

/-- What a read sees after a run of writes: the written bytes in their range, the old ones elsewhere. -/
theorem Memory.read_writeList (m : Memory) (a : Nat) (bs : List Byte) (a' : Nat) :
    Memory.read (Memory.writeList m a bs) a' =
      if a ≤ a' ∧ a' < a + bs.length then bs[a' - a]? else Memory.read m a' := by
  induction bs generalizing m a with
  | nil =>
    simp [Memory.writeList]
  | cons b bs ih =>
    rw [Memory.writeList, ih]
    by_cases h1 : a + 1 ≤ a' ∧ a' < a + 1 + bs.length
    · have h2 : a ≤ a' ∧ a' < a + (bs.length + 1) := by omega
      have h3 : a' - a = (a' - (a + 1)) + 1 := by omega
      simp [h1, h2, h3]
    · by_cases h4 : a' = a
      · subst h4
        simp
      · have h2 : ¬ (a ≤ a' ∧ a' < a + (bs.length + 1)) := by omega
        rw [if_neg h1, Memory.read_write_other m b h4]
        simp [h2]

theorem Memory.wf_nil (cap : Nat) : Memory.wf cap [] := by simp [Memory.wf]

/-- The indexes of a written RAM are the old ones and the written one. -/
theorem Memory.mem_write {m : Memory} {a : Nat} {b : Byte} {x : Host.Cell} (h : x ∈ Memory.write m a b) :
    x = (a, b) ∨ x ∈ m := by
  induction m with
  | nil => simpa [Memory.write] using h
  | cons e m ih =>
    obtain ⟨k, v⟩ := e
    unfold Memory.write at h
    split at h
    · simpa using h
    · split at h
      · rcases List.mem_cons.1 h with h | h
        · exact .inl h
        · exact .inr (List.mem_cons_of_mem _ h)
      · rcases List.mem_cons.1 h with h | h
        · exact .inr (h ▸ List.mem_cons_self)
        · rcases ih h with h | h
          · exact .inl h
          · exact .inr (List.mem_cons_of_mem _ h)

/-- A write inside the RAM keeps its canonical form. -/
theorem Memory.wf_write {cap : Nat} {m : Memory} {a : Nat} (b : Byte) (h : Memory.wf cap m) (ha : a < cap) :
    Memory.wf cap (Memory.write m a b) := by
  constructor
  · have hp := h.1
    clear h
    induction m with
    | nil => simp [Memory.write]
    | cons e m ih =>
      obtain ⟨k, v⟩ := e
      rw [List.pairwise_cons] at hp
      unfold Memory.write
      split
      · next hk =>
        rw [List.pairwise_cons, List.pairwise_cons]
        refine ⟨fun x hx => ?_, hp.1, hp.2⟩
        rcases List.mem_cons.1 hx with rfl | hx
        · exact hk
        · exact Nat.lt_trans hk (hp.1 x hx)
      · split
        · next hk =>
          rw [List.pairwise_cons]
          exact ⟨fun x hx => hk ▸ hp.1 x hx, hp.2⟩
        · rw [List.pairwise_cons]
          refine ⟨fun x hx => ?_, ih hp.2⟩
          rcases Memory.mem_write hx with rfl | hx
          · show k < a
            omega
          · exact hp.1 x hx
  · intro x hx
    rcases Memory.mem_write hx with rfl | hx
    · exact ha
    · exact h.2 x hx

/-- A run of writes inside the RAM keeps its canonical form. -/
theorem Memory.wf_writeList {cap : Nat} {m : Memory} {a : Nat} {bs : List Byte} (h : Memory.wf cap m)
    (ha : a + bs.length ≤ cap) : Memory.wf cap (Memory.writeList m a bs) := by
  induction bs generalizing m a with
  | nil => exact h
  | cons b bs ih =>
    simp only [List.length_cons] at ha
    exact ih (Memory.wf_write b h (by omega)) (by omega)

end Sys2Proof.Machine
end

