-- ==== Sys2Proof/Laws/PerInstr.lean ====
section
/-! SUPPORT. Statements for every command, one lemma per constructor of Instr (LAWS.json). The family `WordOf` is
about the command as a word: its opcode fits its field, its word is well-formed, and the word decodes to it
(spec/30_encoding.md R95). -/

namespace Sys2Proof.Laws.WordOf

/-- The word of a command: RSV = 0, a mapped OPC, and decoding gives the command back. -/
def Statement (i : Instr) : Prop :=
  i.wf = true ∧ WordWellFormed (encode i) ∧ opcOf (encode i) = opcOfInstr i ∧ decode (encode i) = .ok i

theorem nop : Statement .nop := by simp only [Statement]; decide

theorem gfMul : Statement .gfMul := by simp only [Statement]; decide

theorem rsGen : Statement .rsGen := by simp only [Statement]; decide

theorem rsRem : Statement .rsRem := by simp only [Statement]; decide

theorem encode : Statement .encode := by simp only [Statement]; decide

theorem build : Statement .build := by simp only [Statement]; decide

theorem render : Statement .render := by simp only [Statement]; decide

theorem run : Statement .run := by simp only [Statement]; decide

end Sys2Proof.Laws.WordOf
end

