-- ==== Sys2Proof/Tests/Slice0.lean ====
section
/-! SUPPORT. Tests of the model against words and values of spec/95_test_vectors.md and the rules, and, for every
statement that has hypotheses, a witness that meets them (theorems witness_<statement>). -/

namespace Sys2Proof.Tests

open Sys2Proof.Machine Sys2Proof.Claims

/-! ### States and readers -/

/-- After initialisation, before any host access. -/
def idle : State := { State.reset with seq := .idle, tables := builtTables }

/-- With the word `w` accepted. -/
def accepted (w : Word) : State := { idle with seq := .busy w, lastCmd := opcOf w }

/-- A complete matrix. -/
def darkMatrix : ModuleMatrix := Vector.replicate 29 (Vector.replicate 29 ⟨.dark, false⟩)

/-- Rendering, with two bytes left. -/
def streaming : State := { idle with seq := .stream ⟨0, 0x3C#8, [0x0A#8]⟩, lastCmd := 0x06#8 }

/-- A value of the state an outcome holds, none if it holds none. -/
def after {α : Type} (o : Host.Outcome State Fault Refusal) (f : State → α) : Option α :=
  match o with
  | .next s => some (f s)
  | .fault _ => none
  | .refused _ => none

/-- The word a host read of `a` returns. -/
def readBack (s : State) (a : BitVec 16) : Option (List Word) :=
  after (step { s with inputs := [.read a] }) fun t => t.reads.map BusRead.data

/-! ### Words (spec/30_encoding.md R95, R96) -/

/-- R96: RSV ≠ 0 is ill-formed. -/
theorem test_wellFormed_refuses_reserved_bits : ¬ WordReservedZero 0x00000100#32 := by decide

/-- R96: OPC 0x08 is ill-formed. -/
theorem test_wellFormed_refuses_unmapped_opcode : ¬ WordOpcodeMapped 0x00000008#32 := by decide

theorem test_wellFormed_admits_run : WordWellFormed 0x00000007#32 := by decide

theorem test_decode_nop : decode 0b00000000_00000000_00000000_00000000#32 = .ok .nop := by decide

theorem test_decode_gfMul : decode 0b00000000_00000000_00000000_00000001#32 = .ok .gfMul := by decide

theorem test_decode_rsGen : decode 0b00000000_00000000_00000000_00000010#32 = .ok .rsGen := by decide

theorem test_decode_rsRem : decode 0b00000000_00000000_00000000_00000011#32 = .ok .rsRem := by decide

theorem test_decode_encode : decode 0b00000000_00000000_00000000_00000100#32 = .ok .encode := by decide

theorem test_decode_build : decode 0b00000000_00000000_00000000_00000101#32 = .ok .build := by decide

theorem test_decode_render : decode 0b00000000_00000000_00000000_00000110#32 = .ok .render := by decide

theorem test_decode_run : decode 0b00000000_00000000_00000000_00000111#32 = .ok .run := by decide

theorem test_decode_rejects : decode 0x00000008#32 = .error .unmappedOpcode ∧
    decode 0x00000101#32 = .error .reservedBits ∧ decodeTableWord 32 0x108 = none := by decide

/-! ### Commands, from spec/95_test_vectors.md -/

/-- V-CMD-1: NOP leaves STATUS = 0x00000002. -/
theorem test_nop_status : after (step (idle.withFetchWord 32 0)) State.statusWord = some 0x00000002#32 := by
  decide +kernel

/-- V-GF-2: 53 · CA = 8F, index above 254. -/
theorem test_gfMul_wraps : after (exec .gfMul { idle with gfA := 0x53#8, gfB := 0xCA#8 }) State.gfR = some 0x8F#8 := by
  decide +kernel

/-- V-GF-2: 8E · 8E = 47, the largest index. -/
theorem test_gfMul_largest_index :
    after (exec .gfMul { idle with gfA := 0x8E#8, gfB := 0x8E#8 }) State.gfR = some 0x47#8 := by decide +kernel

/-- V-RS-1, k = 4. -/
theorem test_rsGen_degree_four :
    after (exec .rsGen { idle with rsDeg := 4#8 }) (fun t => t.gen.toList.take 6) =
      some [0x01#8, 0x0F#8, 0x36#8, 0x78#8, 0x40#8, 0x00#8] := by decide +kernel

/-- V-RS-5: RS_GEN with RS_LEN = 5, RS_DEG = 33. -/
theorem test_rsGen_range :
    after (exec .rsGen { accepted 2#32 with rsLen := 0x05#8, rsDeg := 0x21#8 }) (fun t => (t.statusWord, t.errInfo)) =
      some (0x00020602#32, 0x00000521#32) := by decide +kernel

/-- V-RS-2: 12 34 56 leaves 37 E6 78 D9. -/
theorem test_rsRem_worked_example :
    after (exec .rsRem { idle with
        rsLen := 3#8, rsDeg := 4#8, cw := [(0, 0x12#8), (1, 0x34#8), (2, 0x56#8)] }) State.cw =
      some [(0, 0x12#8), (1, 0x34#8), (2, 0x56#8), (3, 0x37#8), (4, 0xE6#8), (5, 0x78#8), (6, 0xD9#8)] := by
  decide +kernel

/-- V-ERR-1: 100 + 29 > 128. -/
theorem test_rsRem_range :
    after (exec .rsRem { accepted 3#32 with rsLen := 0x64#8, rsDeg := 0x1D#8 }) (fun t => (t.statusWord, t.errInfo)) =
      some (0x00030602#32, 0x0000641D#32) := by decide +kernel

/-- V-ENC-3: "HELLO". -/
theorem test_encode_hello :
    after (exec .encode { idle with
        textLen := 5#8, text := [(0, 0x48#8), (1, 0x45#8), (2, 0x4C#8), (3, 0x4C#8), (4, 0x4F#8)] })
      (fun t => (t.cw.take 9).map Prod.snd) =
      some [0x40#8, 0x54#8, 0x84#8, 0x54#8, 0xC4#8, 0xC4#8, 0xF0#8, 0xEC#8, 0x11#8] := by decide +kernel

/-- V-ERR-1: n = 54. -/
theorem test_encode_capacity :
    after (exec .encode { accepted 4#32 with textLen := 54#8 }) (fun t => (t.statusWord, t.errInfo, t.cw)) =
      some (0x00040102#32, 0x000001BC#32, []) := by decide +kernel

/-- V-MAT-4: the codewords of "A". -/
def codewordsA : List Byte :=
  [0x40#8, 0x14#8, 0x10#8] ++ (List.replicate 26 [0xEC#8, 0x11#8]).flatten ++
  [0x93#8, 0xF8#8, 0x12#8, 0x41#8, 0x05#8, 0x0B#8, 0x86#8, 0x6F#8, 0xAB#8, 0xFA#8, 0xC5#8, 0x34#8, 0x0E#8, 0x2C#8,
   0x19#8]

/-- A row as a 29-bit number, bit 28 = column 0, Dark = 1 (V-MAT-5). -/
def rowNumber (m : ModuleMatrix) (r : Fin 29) : Nat :=
  (List.finRange 29).foldl (fun a c => 2 * a + if (m.get r c).val = .dark then 1 else 0) 0

set_option maxRecDepth 100000 in
/-- V-MAT-5: the matrix of "A", all 29 rows. -/
theorem test_build_matrix_A :
    (match buildMatrix codewordsA with
      | .ok m => (List.finRange 29).map (rowNumber m)
      | .fault _ => []) =
      [0x1FC4447F, 0x10488841, 0x1752225D, 0x1749995D, 0x1749995D, 0x10477741, 0x1FD5557F, 0x00122200, 0x1DF111C4,
       0x0C9BBB94] ++
      [0x00D77741, 0x1BADDD14, 0x1CE66675, 0x0906662A, 0x167488BE, 0x17AE22EB, 0x164D119E, 0x0137BB96, 0x14DB7741,
       0x0925DD14] ++
      [0x104667F5, 0x001A651A, 0x1FD4895F, 0x105E2318, 0x175D11FD, 0x174BB886, 0x175375D1, 0x1059DE46, 0x1FD66617] := by
  decide +kernel

/-- V-REN-1, S9: the header line's size and first bytes, for SCALE = 1, PAD = 0. -/
theorem test_document_header : (docHeader 29).length = 84 ∧ (docHeader 29).take 5 = [0x3C#8, 0x73#8, 0x76#8, 0x67#8, 0x20#8] ∧
    (docBackground 29).length = 56 ∧ canvas 32767 32767 = 1015777 := by decide +kernel

/-- V-REN-4: SCALE = 0x8000, PAD = 0x8000. -/
theorem test_render_dimension :
    after (exec .render { accepted 6#32 with scale := 0x8000#16, pad := 0x8000#16 })
      (fun t => (t.statusWord, t.errInfo)) = some (0x00060302#32, 0x00000003#32) := by decide +kernel

/-- V-REN-4: after reset, SCALE = 1. -/
theorem test_render_incomplete :
    after (exec .render { accepted 6#32 with scale := 1#16 }) (fun t => (t.statusWord, t.errInfo)) =
      some (0x00060702#32, 0x00000000#32) := by decide +kernel

/-- P4: RUN with n = 54 fails at stage 1 whatever PAD is. -/
theorem test_run_capacity_first :
    after (exec .run { accepted 7#32 with textLen := 54#8, scale := 4#16, pad := 0xFFFF#16, outCount := 9#32 })
      (fun t => (t.statusWord, t.errInfo, t.outCount)) = some (0x00070102#32, 0x000001BC#32, 0#32) := by decide +kernel

/-! ### The bus and the port -/

/-- V-GF-3: the windows after READY. -/
theorem test_window_reads :
    readBack idle 0x1020#16 = some [0x1D#32] ∧ readBack idle 0x17F4#16 = some [0x8E#32] ∧
    readBack idle 0x1A38#16 = some [0xFE#32] ∧ readBack idle 0x1BFC#16 = some [0xAF#32] := by decide +kernel

/-- V-CMD-2: a CMD write right after reset is dropped: STATUS = 0x00000008. -/
theorem test_command_before_ready_is_dropped :
    after (step { State.reset with inputs := [.write 0x0008#16 1#32] }) State.statusWord = some 0x00000008#32 := by
  decide +kernel

/-- P5 step 3: a CMD write while a render streams is dropped: STATUS = 0x0006000B. -/
theorem test_command_while_busy_is_dropped :
    after (step { streaming with inputs := [.write 0x0008#16 0#32] }) State.statusWord = some 0x0006000B#32 := by
  decide +kernel

/-- V-ERR-1: W CMD, 0x00000101, after acceptance. -/
theorem test_illegal_command :
    after (step (idle.withFetchWord 32 0x101)) (fun t => (t.statusWord, t.errInfo)) =
      some (0x00010502#32, 0x00000101#32) := by decide +kernel

/-- R251, V-REN-5: doc_err with doc_ready fails and transfers nothing. -/
theorem test_sink_error_wins :
    after (step { streaming with inputs := [.sink true true] }) (fun t => (t.statusWord, t.errInfo, t.sent)) =
      some (0x00060402#32, 0#32, []) := by decide +kernel

/-- R217, R218: the first byte is taken with doc_first. -/
theorem test_sink_takes_first_byte :
    after (step { streaming with inputs := [.sink true false] }) (fun t => (t.outCount, t.sent, t.docOffer)) =
      some (1#32, [⟨0x3C#8, true, false⟩], some ⟨0x0A#8, false, true⟩) := by decide +kernel

/-! ### Witnesses: the hypotheses of each statement can be met -/

theorem witness_StepRunsTheAcceptedCommand :
    (accepted 1#32).rst = false ∧ CoreNext (accepted 1#32) ∧ (accepted 1#32).seq = .busy 1#32 ∧
      decode 1#32 = .ok .gfMul := ⟨rfl, .inl rfl, rfl, by decide⟩

theorem witness_IllegalWordsEndWithIllegalCommand :
    (accepted 0x100#32).rst = false ∧ CoreNext (accepted 0x100#32) ∧ (accepted 0x100#32).seq = .busy 0x100#32 ∧
      (0x100#32).extractLsb' 8 24 ≠ 0#24 ∧ (accepted 0x008#32).seq = .busy 0x008#32 ∧
      0x07#8 < (0x008#32).extractLsb' 0 8 := ⟨rfl, .inl rfl, rfl, by decide, rfl, by decide⟩

/-- The last register, at its last byte address. -/
theorem witness_RegisterReadsReturnTheirValues :
    ∃ s a v, State.rst s = false ∧ ¬ BusyBit s ∧ NextInput s (.read a) ∧ (wordAddr a, v) ∈ registerValues s :=
  ⟨{ idle with inputs := [.read 0x0033#16] }, 0x0033#16, 0#32, rfl, by decide +kernel, ⟨[], rfl⟩, by decide +kernel⟩

/-- The last entry of each window. -/
theorem witness_WindowReadsReturnTheirEntries :
    let s : State := { idle with text := [(255, 1#8)], cw := [(127, 2#8)] }
    s.rst = false ∧ ReadyBit s ∧ ¬ BusyBit s ∧ ¬ BusyBit State.reset ∧ ¬ ReadyBit State.reset ∧
      (wordAddr 0x17FC#16).toNat = 0x1000 + 4 * 511 ∧
      (wordAddr 0x1BFC#16).toNat = 0x1800 + 4 * 255 ∧ (wordAddr 0x1C80#16).toNat = 0x1C00 + 4 * 32 ∧
      (wordAddr 0x23FC#16).toNat = 0x2000 + 4 * 255 ∧ Memory.read s.text 255 = some 1#8 ∧
      (wordAddr 0x25FC#16).toNat = 0x2400 + 4 * 127 ∧ Memory.read s.cw 127 = some 2#8 ∧
      (wordAddr 0x3E70#16).toNat = 0x3000 + 4 * (32 * 28 + 28) ∧
      ∀ a, NextInput { s with inputs := [.read a] } (.read a) := by
  refine ⟨rfl, by decide +kernel, by decide +kernel, by decide +kernel, by decide +kernel, by decide, by decide, by decide,
    by decide, by decide, by decide, by decide, by decide, fun a => ⟨[], rfl⟩⟩

/-- The ends of the reserved ranges, and a slot of column 29. -/
theorem witness_ReservedAddressesAreHarmless :
    ∃ s, State.rst s = false ∧ ¬ BusyBit s ∧ NextInput s (.read 0x0034#16) ∧ IsReserved 0x0034#16 ∧ IsReserved 0x0FFF#16 ∧
      IsReserved 0x1C84#16 ∧ IsReserved 0x1FFC#16 ∧ IsReserved 0x2600#16 ∧ IsReserved 0x2FFC#16 ∧ IsReserved 0x3074#16 ∧
      IsReserved 0x3E7C#16 ∧ IsReserved 0x3E80#16 ∧ IsReserved 0xFFFF#16 ∧ ¬ IsReserved 0x0030#16 ∧
      ¬ IsReserved 0x3E70#16 ∧ NextInput { s with inputs := [.write 0x0034#16 1#32] } (.write 0x0034#16 1#32) := by
  refine ⟨{ idle with inputs := [.read 0x0034#16] }, rfl, by decide +kernel, ⟨[], rfl⟩, ?_, ?_, ?_, ?_, ?_, ?_, ?_, ?_, ?_,
    ?_, ?_, ?_, ⟨[], rfl⟩⟩ <;> (simp only [IsReserved]; decide)

theorem witness_ReadsHaveNoSideEffect :
    ∃ s, State.rst s = false ∧ BusyBit s ∧ NextInput s (.read 0x0003#16) ∧ wordAddr 0x0003#16 = 0x0000#16 ∧
      NextInput { s with inputs := [.read 0x0004#16] } (.read 0x0004#16) ∧ wordAddr 0x0004#16 = 0x0004#16 :=
  ⟨{ accepted 0#32 with inputs := [.read 0x0003#16] }, rfl, by decide +kernel, ⟨[], rfl⟩, by decide, ⟨[], rfl⟩, by decide⟩

/-- During initialisation too. -/
theorem witness_OperandWritesStoreTheNamedBits :
    ∃ s a v t, State.rst s = false ∧ ¬ BusyBit s ∧ NextInput s (.write a v) ∧ (wordAddr a, t) ∈ operandWrites s.tick v :=
  ⟨{ State.reset with inputs := [.write 0x002F#16 0xFFFF8000#32] }, 0x002F#16, 0xFFFF8000#32, _, rfl, by decide +kernel,
    ⟨[], rfl⟩, by
      rw [show wordAddr 0x002F#16 = 0x002C#16 by decide]
      exact List.mem_of_getElem? (i := 6) rfl⟩

theorem witness_RamWindowWritesStoreOneByte :
    ∃ s, State.rst s = false ∧ ¬ BusyBit s ∧ NextInput s (.write 0x23FC#16 7#32) ∧
      (wordAddr 0x23FC#16).toNat = 0x2000 + 4 * 255 ∧ (wordAddr 0x2400#16).toNat = 0x2400 + 4 * 0 ∧
      (wordAddr 0x25FF#16).toNat = 0x2400 + 4 * 127 ∧
      NextInput { s with inputs := [.write 0x2400#16 7#32] } (.write 0x2400#16 7#32) :=
  ⟨{ idle with inputs := [.write 0x23FC#16 7#32] }, rfl, by decide +kernel, ⟨[], rfl⟩, by decide, by decide, by decide,
    ⟨[], rfl⟩⟩

theorem witness_ReadOnlyTargetsIgnoreWrites :
    ∃ s, State.rst s = false ∧ ¬ BusyBit s ∧ NextInput s (.write 0x1C80#16 7#32) ∧ IsReadOnly 0x1C80#16 ∧
      IsReadOnly 0x0000#16 ∧ IsReadOnly 0x1000#16 ∧ IsReadOnly 0x3E70#16 ∧ ¬ IsReadOnly 0x3E74#16 ∧
      ¬ IsReadOnly 0x1C84#16 ∧ ¬ IsReadOnly 0x0004#16 := by
  refine ⟨{ idle with inputs := [.write 0x1C80#16 7#32] }, rfl, by decide +kernel, ⟨[], rfl⟩, ?_, ?_, ?_, ?_, ?_, ?_, ?_⟩ <;>
    (simp only [IsReadOnly]; decide)

theorem witness_WritesWhileBusyAreDropped :
    ∃ s s', State.rst s = false ∧ BusyBit s ∧ wordAddr 0x0008#16 ≠ 0x0004#16 ∧ NextInput s (.write 0x0008#16 1#32) ∧
      State.rst s' = false ∧ ¬ ReadyBit s' ∧ wordAddr 0x0008#16 = 0x0008#16 ∧ NextInput s' (.write 0x0008#16 1#32) :=
  ⟨{ streaming with inputs := [.write 0x0008#16 1#32] }, { State.reset with inputs := [.write 0x0008#16 1#32] }, rfl,
    by decide +kernel, by decide, ⟨[], rfl⟩, rfl, by decide +kernel, by decide, ⟨[], rfl⟩⟩

theorem witness_OnlyTheHostClearsDropped :
    ∃ s t, State.rst s = false ∧ wordAddr 0x0007#16 = 0x0004#16 ∧ NextInput s (.write 0x0007#16 8#32) ∧
      step s = .next t ∧ s.dropped = true ∧ t.dropped = false :=
  ⟨{ streaming with dropped := true, inputs := [.write 0x0007#16 8#32] }, _, rfl, by decide, ⟨[], rfl⟩, rfl, rfl,
    by decide⟩

theorem witness_CommandAcceptance :
    ∃ s, State.rst s = false ∧ wordAddr 0x000B#16 = 0x0008#16 ∧ NextInput s (.write 0x000B#16 7#32) ∧ ReadyBit s ∧
      ¬ BusyBit s :=
  ⟨{ idle with inputs := [.write 0x000B#16 7#32] }, rfl, by decide, ⟨[], rfl⟩, by decide +kernel, by decide +kernel⟩

/-- FATAL and BUSY can each be 1. -/
theorem witness_StatusWordLayout :
    State.isFatal { State.reset with seq := .initFailed } = true ∧ State.isBusy streaming = true := by decide

theorem witness_ResetAbandonsEverything :
    NextInput { streaming with inputs := [.reset true] } (.reset true) ∧
      NextInput { State.reset with rst := true, inputs := [.reset false] } (.reset false) := ⟨⟨[], rfl⟩, ⟨[], rfl⟩⟩

theorem witness_NothingMovesUnderReset :
    ∃ s, State.rst s = true ∧ CoreNext s ∧ NextInput { s with inputs := [.write 0#16 0#32] } (.write 0#16 0#32) ∧
      NextInput { s with inputs := [.sink true true] } (.sink true true) :=
  ⟨{ State.reset with rst := true }, rfl, .inl rfl, ⟨[], rfl⟩, ⟨[], rfl⟩⟩

/-- In initialisation, idle, and BUSY. -/
theorem witness_TablesSoundKept :
    (∃ t, TablesSound State.reset ∧ step State.reset = .next t) ∧ (∃ t, TablesSound idle ∧ step idle = .next t) ∧
      ∃ t, TablesSound (accepted 1#32) ∧ step (accepted 1#32) = .next t :=
  ⟨⟨_, rfl, rfl⟩, ⟨_, rfl, rfl⟩, ⟨_, rfl, rfl⟩⟩

theorem witness_TablesImmutableOnceReady :
    ∃ t, ReadyBit idle ∧ ¬ NextInput idle (.reset true) ∧ step idle = .next t :=
  ⟨_, by decide +kernel, fun ⟨_, h⟩ => by simp [idle, State.reset] at h, rfl⟩

theorem witness_GeneratorIsMonic : (32 : Nat) ≤ 32 ∧ (31 : Nat) < 32 := by decide

theorem witness_FieldLaws : (0x53#8 : Byte) ≠ 0#8 ∧ gmul builtTables 0#8 0x53#8 = 0#8 := by decide +kernel

/-- k = 32 is the last degree RS_GEN takes. -/
theorem witness_RsGenCompletes : (State.rsDeg { idle with rsDeg := 32#8 }).toNat ≤ 32 := by decide

/-- L + k = 128 is the largest sum RS_REM takes. -/
theorem witness_RsRemCompletes :
    let s : State := { idle with rsLen := 113#8, rsDeg := 15#8 }
    s.rsDeg.toNat ≤ 32 ∧ s.rsLen.toNat + s.rsDeg.toNat ≤ 128 := by decide

theorem witness_RsOperandRange :
    32 < (State.rsDeg { idle with rsDeg := 33#8 }).toNat ∧
      128 < (State.rsLen { idle with rsLen := 114#8, rsDeg := 15#8 }).toNat + (15#8).toNat := by decide

/-- n = 53 is the last length ENCODE takes. -/
theorem witness_EncodeCompletes : (State.textLen { idle with textLen := 53#8 }).toNat ≤ 53 := by decide

theorem witness_CodewordsClosedForm : (List.replicate 53 0x41#8).length = (53#8).toNat ∧ (53#8).toNat ≤ 53 := by decide

theorem witness_EncodeOverCapacity : 54 ≤ (State.textLen { idle with textLen := 54#8 }).toNat := by decide

/-- Some codewords build a matrix, for FunctionCellsDoNotDependOnInput, DataCellsCarryMaskedBits,
FunctionPatternsAsDrawn and FormatWordInBothCopies. -/
theorem witness_builtMatrix :
    codewordsA.length = 70 ∧ (match buildMatrix codewordsA with | .ok _ => true | .fault _ => false) = true ∧
      ((7 : Fin 29).val + 1 = (0 : Fin 29).val + (8 : Fin 9).val ∧ (21 : Fin 29).val + 1 = (22 : Fin 29).val + (0 : Fin 9).val) ∧
      dataCells[0]? = some (28, 28) ∧ dataCells[566]? = some (20, 0) ∧ primaryCells[14]? = some (8, 0) ∧
      secondaryCells[14]? = some (28, 8) := by decide +kernel

theorem darkMatrix_get (r c : Fin 29) : darkMatrix.get r c = ⟨.dark, false⟩ := by
  simp [ModuleMatrix.get, darkMatrix, Vector.get_eq_getElem]

theorem witness_RenderCompletes :
    let s : State := { idle with scale := 1#16, matrix := darkMatrix }
    0 < s.scale.toInt ∧ 0 ≤ s.pad.toInt ∧ ∀ r c, (s.matrix.get r c).val ≠ .unset := by
  refine ⟨by decide, by decide, fun r c => ?_⟩
  rw [darkMatrix_get]
  decide

theorem witness_RenderInvalidDimension :
    (State.scale idle).toInt ≤ 0 ∧ (State.pad { idle with scale := 1#16, pad := 0xFFFF#16 }).toInt < 0 := by decide

/-- The last cell, all before it set. -/
theorem witness_RenderIncompleteMatrix :
    let s : State := { idle with scale := 1#16, matrix := darkMatrix.set 28 28 ⟨.unset, false⟩ }
    0 < s.scale.toInt ∧ 0 ≤ s.pad.toInt ∧ (s.matrix.get 28 28).val = .unset ∧
      ∀ r' c' : Fin 29, (r' < 28 ∨ (r' = 28 ∧ c' < 28)) → (s.matrix.get r' c').val ≠ .unset := by
  refine ⟨by decide, by decide, by decide +kernel, ?_⟩
  decide +kernel

theorem witness_SinkCycleOutcomes :
    (∃ s p, State.rst s = false ∧ s.seq = .stream p ∧ NextInput s (.sink true false)) ∧
      (∀ p, idle.seq ≠ .stream p) ∧ NextInput { idle with inputs := [.sink true true] } (.sink true true) :=
  ⟨⟨{ streaming with inputs := [.sink true false] }, _, rfl, rfl, ⟨[], rfl⟩⟩, fun _ => by simp [idle], ⟨[], rfl⟩⟩

theorem witness_StreamSoundKept : ∃ t, StreamSound idle ∧ step idle = .next t := ⟨_, trivial, rfl⟩

theorem witness_RenderEmitsTheDocument :
    let s₀ : State := { accepted 6#32 with scale := 1#16, matrix := darkMatrix }
    let s : State := { s₀ with inputs := .core :: List.replicate s₀.doc.length (.sink true false) }
    s.rst = false ∧ s.seq = .busy 0x00000006#32 ∧ 0 < s.scale.toInt ∧ 0 ≤ s.pad.toInt ∧
      (∀ r c, (s.matrix.get r c).val ≠ .unset) ∧
      s.inputs = .core :: List.replicate s.doc.length (.sink true false) := by
  refine ⟨rfl, rfl, by decide, by decide, fun r c => ?_, rfl⟩
  rw [darkMatrix_get]
  decide

theorem witness_RunCompletes :
    let s : State := { idle with textLen := 53#8, scale := 1#16 }
    s.textLen.toNat ≤ 53 ∧ 0 < s.scale.toInt ∧ 0 ≤ s.pad.toInt := by decide

theorem witness_RunStopsAtTheFirstError :
    54 ≤ (State.textLen { idle with textLen := 54#8 }).toNat ∧ (State.textLen idle).toNat ≤ 53 ∧
      (State.scale idle).toInt ≤ 0 := by decide

theorem witness_RunEqualsTheFourCommands :
    (State.textLen idle).toNat ≤ 53 ∧ 54 ≤ (State.textLen { idle with textLen := 255#8 }).toNat := by decide

theorem witness_RunIsDeterminedByItsInputs :
    let s₁ : State := { idle with textLen := 1#8, scale := 1#16, text := [(0, 0x41#8)] }
    let s₂ : State := { s₁ with text := [(0, 0x41#8), (7, 0xFF#8)], cw := [(3, 9#8)], matrix := darkMatrix, draws := 5 }
    s₁.tables = builtTables ∧ s₂.tables = builtTables ∧ s₁.textLen.toNat ≤ 53 ∧ s₂.textLen = s₁.textLen ∧
      s₂.scale = s₁.scale ∧ s₂.pad = s₁.pad ∧
      (∀ i, i < s₁.textLen.toNat → ∃ b, Memory.read s₁.text i = some b ∧ Memory.read s₂.text i = some b) ∧
      ∃ t₁, exec .run s₁ = .next t₁ := by
  refine ⟨rfl, rfl, by decide, rfl, rfl, rfl, fun i hi => ?_, _, rfl⟩
  have h : i = 0 := by
    have : i < 1 := hi
    omega
  subst h
  exact ⟨0x41#8, rfl, rfl⟩

/-- A host write to the RAM that already lists an entry. -/
theorem witness_RamsCanonicalKept :
    let s : State := { idle with text := [(255, 1#8)], inputs := [.write 0x2000#16 2#32] }
    ∃ t, RamsCanonical s ∧ step s = .next t ∧ t.text = [(0, 2#8), (255, 1#8)] :=
  ⟨_, by decide, rfl, by decide⟩

theorem witness_StatusSoundKept : ∃ t, StatusSound (accepted 6#32) ∧ step (accepted 6#32) = .next t :=
  ⟨_, ⟨rfl, rfl, rfl⟩, rfl⟩

theorem witness_MatrixSoundKept : ∃ t, MatrixSound idle ∧ step idle = .next t := ⟨_, .inl rfl, rfl⟩

theorem witness_CommandsWriteOnlyTheirResults : ∃ t, exec .run idle = .next t := ⟨_, rfl⟩

theorem witness_CoreWithNothingToDo :
    State.rst streaming = false ∧ CoreNext streaming ∧ streaming.seq = .stream ⟨0, 0x3C#8, [0x0A#8]⟩ ∧ idle.seq = .idle ∧
      (State.seq { idle with seq := .initFailed }) = .initFailed := ⟨rfl, .inl rfl, rfl, rfl, rfl⟩

end Sys2Proof.Tests
end

section
/-! The builder never fails and leaves no cell Unset (spec/43_matrix.md R171 to R189). -/

namespace Sys2Proof.Machine

open Claims

/-! ### Phases 0 to 4 -/

/-- Whether a chain of phases passed its checks. -/
def Built.passed : Built → Bool
  | .ok _ => true
  | .fault _ => false

/-- The matrix of a chain of phases that passed its checks. -/
def Built.matrix : (b : Built) → b.passed = true → ModuleMatrix
  | .ok m, _ => m

theorem Built.eq_ok_matrix : ∀ (b : Built) (h : b.passed = true), b = .ok (b.matrix h)
  | .ok _, _ => rfl

/-- The matrix with the function patterns, as phases 0 to 4 leave it (spec/43_matrix.md R172 to R180). -/
def patternMatrix : ModuleMatrix := functionPatterns.matrix (by decide +kernel)

theorem functionPatterns_eq : functionPatterns = .ok patternMatrix := Built.eq_ok_matrix _ _

/-- Before data placement no data cell has a value, none lies in column 6, which the walk skips, and the only function
cells without a value are those of the format information (spec/43_matrix.md R178, R180, R182). -/
abbrev OnlyDataAndFormatOpen (m : ModuleMatrix) : Prop :=
  ∀ r c, ((m.get r c).func = false → (m.get r c).val = .unset ∧ c ≠ 6) ∧
    ((m.get r c).func = true → (m.get r c).val = .unset → (r, c) ∈ primaryCells ++ secondaryCells)

theorem patternMatrix_open : OnlyDataAndFormatOpen patternMatrix := by decide +kernel

/-! ### The walk -/

/-- The model's walk is the one written out pass by pass (spec/43_matrix.md R182). -/
theorem walkOrder_eq_zigzag : walkOrder = zigzag := by decide +kernel

theorem mem_passCells {rows : List (Fin 29)} {right left : Fin 29} {p : Fin 29 × Fin 29} :
    p ∈ passCells rows right left ↔ p.1 ∈ rows ∧ (p.2 = right ∨ p.2 = left) := by
  obtain ⟨r, c⟩ := p
  simp [passCells, ← and_or_left]

/-- The walk visits every cell outside column 6. -/
theorem mem_walkOrder (p : Fin 29 × Fin 29) : p ∈ walkOrder ↔ p.2 ≠ 6 := by
  rw [walkOrder_eq_zigzag]
  simp only [zigzag, List.mem_append, mem_passCells, List.mem_reverse, List.mem_finRange, true_and]
  omega

/-- The walk is as long as there are cells to visit, so it visits none twice. -/
theorem walkOrder_nodup : walkOrder.Nodup := by
  have hcells : walkOrder.toFinset = Finset.univ.filter fun p : Fin 29 × Fin 29 => p.2 ≠ 6 := by
    ext p
    simp [mem_walkOrder]
  have hcard : walkOrder.toFinset.card = walkOrder.length := by
    rw [hcells, walkOrder_eq_zigzag]
    decide +kernel
  exact Multiset.toFinset_card_eq_card_iff_nodup.1 hcard

/-! ### Phase 5 -/

/-- The value placed for a data bit is never Unset (spec/43_matrix.md R182, R183). -/
theorem bitVal_ne_unset (b : Option Bool) : bitVal b ≠ .unset := by
  rcases b with _ | _ | _ <;> simp [bitVal]

/-- Along a walk that visits no cell twice and only finds data cells Unset, placement passes its checks: every data
cell of the walk gets a value, and every other cell stays (spec/43_matrix.md R182). -/
theorem placeData_ok {cs : List (Fin 29 × Fin 29)} {bits : List Bool} {m : ModuleMatrix} (hnodup : cs.Nodup)
    (hunset : ∀ p ∈ cs, (m.get p.1 p.2).func = false → (m.get p.1 p.2).val = .unset) :
    ∃ m', placeData cs bits m = .ok m' ∧
      (∀ p ∈ cs, (m.get p.1 p.2).func = false → (m'.get p.1 p.2).val ≠ .unset) ∧
      ∀ r c, ((r, c) ∉ cs ∨ (m.get r c).func = true) → m'.get r c = m.get r c := by
  induction cs generalizing bits m with
  | nil => exact ⟨m, rfl, by simp, fun _ _ _ => rfl⟩
  | cons p cs ih =>
    obtain ⟨r, c⟩ := p
    obtain ⟨hnew, hrest⟩ := List.nodup_cons.1 hnodup
    cases hf : (m.get r c).func with
    | true =>
      obtain ⟨m', hm', hset, hkeep⟩ := ih (bits := bits) hrest fun p hp => hunset p (List.mem_cons_of_mem _ hp)
      refine ⟨m', by simp [placeData, hf, hm'], ?_, ?_⟩
      · intro p hp hpf
        rcases List.mem_cons.1 hp with rfl | hp
        · simp [hf] at hpf
        · exact hset p hp hpf
      · intro r' c' h
        exact hkeep r' c' (h.imp_left fun h hm => h (List.mem_cons_of_mem _ hm))
    | false =>
      have hv : (m.get r c).val = .unset := hunset (r, c) List.mem_cons_self hf
      let x : Cell := ⟨bitVal bits.head?, false⟩
      have hother : ∀ p ∈ cs, (m.set r c x).get p.1 p.2 = m.get p.1 p.2 := fun p hp =>
        ModuleMatrix.get_set_other m x fun ⟨hr, hc⟩ => hnew (by rw [hr, hc]; exact hp)
      obtain ⟨m', hm', hset, hkeep⟩ := ih (bits := bits.tail) (m := m.set r c x) hrest fun p hp => by
        rw [hother p hp]
        exact hunset p (List.mem_cons_of_mem _ hp)
      refine ⟨m', by simp [placeData, hf, hv, hm', x], ?_, ?_⟩
      · intro p hp hpf
        rcases List.mem_cons.1 hp with rfl | hp
        · rw [hkeep _ _ (.inl hnew), ModuleMatrix.get_set_same]
          exact bitVal_ne_unset _
        · exact hset p hp (by rwa [hother p hp])
      · intro r' c' h
        have hne : ¬ (r = r' ∧ c = c') := by
          rintro ⟨rfl, rfl⟩
          simp [hf] at h
        have hsame := ModuleMatrix.get_set_other m x hne
        rw [hkeep r' c' (by rw [hsame]; exact h.imp_left fun h hm => h (List.mem_cons_of_mem _ hm)), hsame]

/-! ### Phases 6 and 7 -/

/-- No cell with a value in the first matrix is Unset in the second. -/
def ModuleMatrix.ValuesKept (m m' : ModuleMatrix) : Prop :=
  ∀ r c, (m.get r c).val ≠ .unset → (m'.get r c).val ≠ .unset

theorem ModuleMatrix.ValuesKept.refl (m : ModuleMatrix) : m.ValuesKept m := fun _ _ h => h

theorem ModuleMatrix.ValuesKept.trans {m m' m'' : ModuleMatrix} (h : m.ValuesKept m') (h' : m'.ValuesKept m'') :
    m.ValuesKept m'' := fun r c hv => h' r c (h r c hv)

theorem ModuleMatrix.valuesKept_set (m : ModuleMatrix) (r c : Fin 29) {x : Cell} (hx : x.val ≠ .unset) :
    m.ValuesKept (m.set r c x) := by
  intro r' c' h
  rw [ModuleMatrix.get_set]
  split
  · exact hx
  · exact h

/-- Masking flips values and removes none (spec/43_matrix.md R184). -/
theorem phaseMask_valuesKept (m : ModuleMatrix) : m.ValuesKept (phaseMask m) := by
  refine List.foldlRecOn (motive := m.ValuesKept) _ _ (.refl m) fun m' h p _ => h.trans ?_
  unfold maskCell
  split
  · exact m'.valuesKept_set _ _ (by cases (m'.get p.1 p.2).val <;> simp [flipVal])
  · exact .refl m'

/-- A format bit at a coordinate inside the matrix passes its check and gives the cell a value. -/
theorem putFormatBit_ok (b : Bool) (m : ModuleMatrix) {p : Int × Int} {r c : Fin 29}
    (hp : toCoord p.1 p.2 = some (r, c)) :
    ∃ m', checkedAt 7 p.1 p.2 m (putFunc (bitVal (some b))) = .ok m' ∧ m.ValuesKept m' ∧
      (m'.get r c).val ≠ .unset := by
  refine ⟨m.set r c ⟨bitVal (some b), true⟩, by simp [checkedAt, hp, putFunc],
    m.valuesKept_set r c (bitVal_ne_unset _), ?_⟩
  rw [ModuleMatrix.get_set_same]
  exact bitVal_ne_unset _

/-- The format overlay, on coordinates inside the matrix, passes its checks and gives every one of its cells a value
(spec/43_matrix.md R188). -/
theorem placeFormat_ok {bs : List Bool} {ps qs : List (Int × Int)} {ps' qs' : List (Fin 29 × Fin 29)}
    (m : ModuleMatrix) (hps : ps.map (fun p => toCoord p.1 p.2) = ps'.map some)
    (hqs : qs.map (fun q => toCoord q.1 q.2) = qs'.map some) (hp : ps.length = bs.length)
    (hq : qs.length = bs.length) :
    ∃ m', placeFormat bs ps qs m = .ok m' ∧ m.ValuesKept m' ∧ ∀ p ∈ ps' ++ qs', (m'.get p.1 p.2).val ≠ .unset := by
  induction bs generalizing ps qs ps' qs' m with
  | nil =>
    obtain rfl := List.length_eq_zero_iff.1 hp
    obtain rfl := List.length_eq_zero_iff.1 hq
    obtain rfl := List.map_eq_nil_iff.1 hps.symm
    obtain rfl := List.map_eq_nil_iff.1 hqs.symm
    exact ⟨m, rfl, .refl m, by simp⟩
  | cons b bs ih =>
    match ps, qs, ps', qs' with
    | p :: ps, q :: qs, p' :: ps', q' :: qs' =>
      simp only [List.map_cons, List.cons.injEq, List.length_cons, Nat.add_right_cancel_iff] at hps hqs hp hq
      obtain ⟨m₁, h₁, hk₁, hv₁⟩ := putFormatBit_ok b m hps.1
      obtain ⟨m₂, h₂, hk₂, hv₂⟩ := putFormatBit_ok b m₁ hqs.1
      obtain ⟨m₃, h₃, hk₃, hv₃⟩ := ih m₂ hps.2 hqs.2 hp hq
      refine ⟨m₃, by simp [placeFormat, h₁, h₂, h₃], hk₁.trans (hk₂.trans hk₃), ?_⟩
      intro x hx
      simp only [List.cons_append, List.mem_cons, List.mem_append] at hx hv₃
      rcases hx with rfl | hx | rfl | hx
      · exact hk₃ _ _ (hk₂ _ _ hv₁)
      · exact hv₃ x (.inl hx)
      · exact hk₃ _ _ hv₂
      · exact hv₃ x (.inr hx)

theorem primaryCoords_toCoord : primaryCoords.map (fun p => toCoord p.1 p.2) = primaryCells.map some := by decide

theorem secondaryCoords_toCoord : secondaryCoords.map (fun q => toCoord q.1 q.2) = secondaryCells.map some := by
  decide

theorem phaseFormat_ok (m : ModuleMatrix) :
    ∃ m', phaseFormat m = .ok m' ∧ m.ValuesKept m' ∧
      ∀ p ∈ primaryCells ++ secondaryCells, (m'.get p.1 p.2).val ≠ .unset :=
  placeFormat_ok m primaryCoords_toCoord secondaryCoords_toCoord (by simp [primaryCoords, formatBits])
    (by simp [secondaryCoords, formatBits])

/-! ### BUILD -/

/-- On any codewords the builder passes every check and leaves no cell Unset (spec/43_matrix.md R171, R189). -/
theorem buildMatrix_ok (codewords : List Byte) : ∃ m, buildMatrix codewords = .ok m ∧ MatrixComplete m := by
  have hopen := patternMatrix_open
  obtain ⟨m₁, h₁, hplaced, hkept⟩ := placeData_ok (bits := placementBits codewords) (m := patternMatrix)
    walkOrder_nodup fun p _ hf => ((hopen p.1 p.2).1 hf).1
  obtain ⟨m₂, h₂, hvalues, hformat⟩ := phaseFormat_ok (phaseMask m₁)
  have hkeep : m₁.ValuesKept m₂ := (phaseMask_valuesKept m₁).trans hvalues
  have hbuild : buildMatrix codewords = .ok m₂ := by
    unfold buildMatrix
    rw [functionPatterns_eq, Built.andThen_ok, h₁, Built.andThen_ok, h₂]
  refine ⟨m₂, hbuild, fun r c => ?_⟩
  cases hf : (patternMatrix.get r c).func with
  | false =>
    have hwalk : (r, c) ∈ walkOrder := (mem_walkOrder _).2 ((hopen r c).1 hf).2
    exact hkeep r c (hplaced (r, c) hwalk hf)
  | true =>
    by_cases hv : (patternMatrix.get r c).val = .unset
    · exact hformat (r, c) ((hopen r c).2 hf hv)
    · exact hkeep r c (by rwa [hkept r c (.inr hf)])

/-- BUILD never fails, and its matrix is complete (spec/43_matrix.md R171, R189). -/
theorem buildStage_done (s : State) : ∃ m, MatrixComplete m ∧ buildStage s = .done { s with matrix := m } := by
  obtain ⟨m, hm, hcomplete⟩ := buildMatrix_ok (s.cwPrefix 70)
  refine ⟨m, hcomplete, ?_⟩
  unfold buildStage
  rw [hm]

end Sys2Proof.Machine
end

section
/-! Lengths of what the coders answer (spec/41_reed_solomon.md R133, spec/42_bitstream.md R152 to R155). -/

namespace Sys2Proof.Machine

theorem xorAt_length (r : List Byte) (n : Nat) (v : Byte) : (xorAt r n v).length = r.length := by
  induction r generalizing n with
  | nil => rfl
  | cons a r ih =>
    cases n with
    | zero => rfl
    | succ n => simp [xorAt, ih]

theorem divStep_length (t : Tables) (g w : List Byte) (i : Nat) : (divStep t g w i).length = w.length := by
  simp only [divStep]
  split
  · rfl
  · refine List.foldlRecOn (motive := fun u : List Byte => u.length = w.length) _ _ rfl fun u hu j _ => ?_
    rw [xorAt_length, hu]

/-- The remainder of a division of degree `k` has `k` coefficients (spec/41_reed_solomon.md R133). -/
theorem remainder_length (t : Tables) (d : List Byte) (k : Nat) : (remainder t d k).length = k := by
  have hfold : ((List.range d.length).foldl (divStep t (generator t k)) (d ++ List.replicate k 0#8)).length =
      d.length + k :=
    List.foldlRecOn (motive := fun u : List Byte => u.length = d.length + k) _ _ (by simp) fun u hu i _ => by
      rw [divStep_length, hu]
  rw [remainder, List.length_drop, hfold, Nat.add_sub_cancel_left]

@[simp] theorem msbBits_length {w : Nat} (v : BitVec w) : (msbBits v).length = w := by simp [msbBits]

theorem payloadBits_length (n : Byte) (bytes : List Byte) :
    (payloadBits n bytes).length = neededBits bytes.length := by
  have hbytes : (bytes.flatMap msbBits).length = 8 * bytes.length := by simp [List.length_flatMap, Nat.mul_comm]
  simp only [payloadBits, List.length_append, msbBits_length, hbytes, neededBits]

/-- Eight bits make a byte; fewer than eight at the end make none. -/
theorem packBits_length (b : List Bool) : (packBits b).length = b.length / 8 := by
  induction b using packBits.induct with
  | case1 b7 b6 b5 b4 b3 b2 b1 b0 rest ih => simp only [packBits, List.length_cons, ih]; omega
  | case2 b hb =>
    match b, hb with
    | b7 :: b6 :: b5 :: b4 :: b3 :: b2 :: b1 :: b0 :: rest, hb => exact (hb _ _ _ _ _ _ _ _ _ rfl).elim
    | [], _ | [_], _ | [_, _], _ | [_, _, _], _ | [_, _, _, _], _ | [_, _, _, _, _], _ | [_, _, _, _, _, _], _
    | [_, _, _, _, _, _, _], _ => simp [packBits]

/-- The terminator never goes beyond the capacity (spec/42_bitstream.md R153). -/
theorem withTerminator_length_le {b : List Bool} (h : b.length ≤ capacityBits) :
    (withTerminator b).length ≤ capacityBits := by
  simp only [withTerminator, List.length_append, List.length_replicate]
  omega

/-- The capacity is a whole number of bytes, so the alignment does not go beyond it either (R154). -/
theorem withAlignment_length_le {b : List Bool} (h : b.length ≤ capacityBits) :
    (withAlignment b).length ≤ capacityBits := by
  simp only [withAlignment, capacityBits, List.length_append, List.length_replicate] at *
  omega

/-- Text within the capacity gives exactly the 55 data codewords (spec/42_bitstream.md R155). -/
theorem dataCodewords_length (n : Byte) {bytes : List Byte} (h : bytes.length ≤ 53) :
    (dataCodewords n bytes).length = 55 := by
  have hpayload : (payloadBits n bytes).length ≤ capacityBits := by
    rw [payloadBits_length, neededBits, capacityBits]
    omega
  have hpacked := withAlignment_length_le (withTerminator_length_le hpayload)
  rw [dataCodewords, withPads, List.length_append, packBits_length, List.length_map, List.length_range]
  rw [capacityBits] at hpacked
  omega

end Sys2Proof.Machine
end

section
/-! What a command may write: each stage's writes, then each command's effect (spec/30_encoding.md R95). -/

namespace Sys2Proof.Machine

open Claims

/-! ### What each stage writes -/

theorem Memory.writeList_append (m : Memory) (a : Nat) (xs ys : List Byte) :
    Memory.writeList (Memory.writeList m a xs) (a + xs.length) ys = Memory.writeList m a (xs ++ ys) := by
  induction xs generalizing m a with
  | nil => rfl
  | cons x xs ih =>
    have ha : a + (x :: xs).length = a + 1 + xs.length := by simp only [List.length_cons]; omega
    rw [ha]
    exact ih (Memory.write m a x) (a + 1)

/-- The coder writes GEN and as many EC codewords as the degree (spec/41_reed_solomon.md R135). -/
theorem rsCode_writes (s : State) (l k : Nat) :
    ∃ g ecs, ecs.length = k ∧ s.rsCode l k = { s with gen := g, cw := Memory.writeList s.cw l ecs } :=
  ⟨_, _, remainder_length _ _ _, rfl⟩

theorem rsGenStage_writes (s : State) :
    rsGenStage s = .ended (s.raise .operandRange s.rangeInfo) ∨ ∃ g, rsGenStage s = .done { s with gen := g } :=
  (rsGenStage_cases s).imp And.right fun h => ⟨_, h.2⟩

theorem rsRemStage_writes (s : State) :
    rsRemStage s = .ended (s.raise .operandRange s.rangeInfo) ∨
      ∃ g ecs, ecs.length = s.opK ∧ s.opL + s.opK ≤ 128 ∧
        rsRemStage s = .done { s with gen := g, cw := Memory.writeList s.cw s.opL ecs } := by
  rcases rsRemStage_cases s with ⟨-, hs⟩ | ⟨-, hfit, hs⟩
  · exact .inl hs
  · obtain ⟨g, ecs, hlen, hw⟩ := rsCode_writes s s.opL s.opK
    exact .inr ⟨g, ecs, hlen, hfit, hs.trans (congrArg Stage.done hw)⟩

/-- ENCODE fails before it writes, or writes the 55 data codewords (spec/42_bitstream.md R156). -/
theorem encodeStage_writes (s : State) :
    (∃ info, encodeStage s = .ended (s.raise .capacityExceeded info)) ∨
      ∃ cs, cs.length = 55 ∧ encodeStage s = .done { s with cw := Memory.writeList s.cw 0 cs } := by
  rcases encodeStage_cases s with ⟨-, hs⟩ | ⟨hn, hs⟩
  · exact .inl ⟨_, hs⟩
  · exact .inr ⟨_, dataCodewords_length _ (by simpa [State.textPrefix] using hn), hs⟩

/-- RUN's stages 1 to 3 fail before they write, or write CW[0..69], GEN and a complete MATRIX
(spec/45_pipeline.md R231). -/
theorem runStages_writes (s : State) :
    (∃ info, runStages s = .ended (s.raise .capacityExceeded info)) ∨
      ∃ cs g m, cs.length = 70 ∧ MatrixComplete m ∧
        runStages s = .done { s with gen := g, cw := Memory.writeList s.cw 0 cs, matrix := m } := by
  unfold runStages
  rcases encodeStage_writes s with ⟨info, hs⟩ | ⟨cs, hcs, hs⟩
  · exact .inl ⟨info, by rw [hs, Stage.andThen_ended, Stage.andThen_ended]⟩
  · obtain ⟨g, ecs, hecs, hcode⟩ := rsCode_writes { s with cw := Memory.writeList s.cw 0 cs } 55 15
    have hcw := Memory.writeList_append s.cw 0 cs ecs
    rw [hcs, Nat.zero_add] at hcw
    obtain ⟨m, hm, hb⟩ := buildStage_done { s with gen := g, cw := Memory.writeList s.cw 0 (cs ++ ecs) }
    refine .inr ⟨cs ++ ecs, g, m, by rw [List.length_append, hcs, hecs], hm, ?_⟩
    rw [hs, Stage.andThen_done, runCodeStage, Stage.andThen_done, hcode, ← hb, ← hcw]

/-- The render stage writes nothing but the error registers and the sequencer: it ends the command with an error, or
offers a byte and leaves the error registers (spec/44_render.md R221). -/
theorem renderStage_writes (s : State) :
    ∃ code info q, s.renderStage = { s with errCode := code, errInfo := info, seq := q } ∧
      ((code ≠ .noError ∧ q = .idle) ∨ (code = s.errCode ∧ info = s.errInfo ∧ ∃ p, q = .stream p)) := by
  rcases renderStage_cases s with ⟨-, h⟩ | ⟨-, ⟨r, c, -, h⟩ | ⟨-, b, bs, -, h⟩⟩
  · exact ⟨.invalidDimension, _, _, h, .inl ⟨ErrCode.noConfusion, rfl⟩⟩
  · exact ⟨.matrixIncomplete, _, _, h, .inl ⟨ErrCode.noConfusion, rfl⟩⟩
  · exact ⟨_, _, _, h, .inr ⟨rfl, rfl, _, rfl⟩⟩

/-! ### What every command may write -/

/-- What command `i`, run in `s`, may have written in `t`, whether it succeeded or failed (spec/30_encoding.md
R95). -/
structure CommandEffect (i : Instr) (s t : State) : Prop where
  /-- only results, the error registers and the sequencer differ -/
  frame : t = { s with
    gfR := t.gfR, gen := t.gen, matrix := t.matrix, outCount := t.outCount, cw := t.cw
    errCode := t.errCode, errInfo := t.errInfo, seq := t.seq }
  /-- GF_R is GF_MUL's -/
  gfR : i ≠ .gfMul → t.gfR = s.gfR
  /-- GEN is RS_GEN's, RS_REM's and RUN's -/
  gen : i ≠ .rsGen → i ≠ .rsRem → i ≠ .run → t.gen = s.gen
  /-- MATRIX is BUILD's and RUN's, who leave it complete -/
  matrix : t.matrix = s.matrix ∨ ((i = .build ∨ i = .run) ∧ MatrixComplete t.matrix)
  /-- OUT_COUNT is RENDER's and RUN's -/
  outCount : i ≠ .render → i ≠ .run → t.outCount = s.outCount
  /-- CW takes one run of bytes, inside its 128 entries and the command's own range -/
  cw : ∃ a bs, t.cw = Memory.writeList s.cw a bs ∧ a + bs.length ≤ 128 ∧
    ∀ j, a ≤ j → j < a + bs.length → WritesCw i s j
  /-- an error ends the command -/
  error : (t.errCode = s.errCode ∧ t.errInfo = s.errInfo) ∨ (t.errCode ≠ .noError ∧ t.seq = .idle)
  /-- a command ends, or streams its document -/
  seq : t.seq = .idle ∨ ∃ p, t.seq = .stream p ∧ (i = .render ∨ i = .run)

/-- CW as it was has taken the empty run of bytes. -/
theorem cw_unchanged (i : Instr) (s : State) :
    ∃ a bs, s.cw = Memory.writeList s.cw a bs ∧ a + bs.length ≤ 128 ∧
      ∀ j, a ≤ j → j < a + bs.length → WritesCw i s j :=
  ⟨0, [], rfl, by simp, fun j _ hj => by simp at hj⟩

/-- A command that ends and has written nothing. -/
theorem commandEffect_endCommand (i : Instr) (s : State) : CommandEffect i s s.endCommand where
  frame := rfl
  gfR _ := rfl
  gen _ _ _ := rfl
  matrix := .inl rfl
  outCount _ _ := rfl
  cw := cw_unchanged i s
  error := .inl ⟨rfl, rfl⟩
  seq := .inl rfl

/-- A command that fails has written what it had written before the error. -/
theorem CommandEffect.raise {i : Instr} {s u : State} (h : CommandEffect i s u.endCommand) {code : ErrCode}
    (hcode : code ≠ .noError) (info : Word) : CommandEffect i s (u.raise code info) where
  frame := by
    have : u.raise code info = { u.endCommand with errCode := code, errInfo := info } := rfl
    rw [this, h.frame]
  gfR := h.gfR
  gen := h.gen
  matrix := h.matrix
  outCount := h.outCount
  cw := h.cw
  error := .inr ⟨hcode, rfl⟩
  seq := .inl rfl

/-- A command whose stages leave `u` without an error, and that goes on to render, may write what it could by ending in
`u`, and may stream. -/
theorem CommandEffect.renderStage {i : Instr} {s u : State} (h : CommandEffect i s u.endCommand)
    (hi : i = .render ∨ i = .run) (hcode : u.errCode = s.errCode) (hinfo : u.errInfo = s.errInfo) :
    CommandEffect i s u.renderStage := by
  obtain ⟨code, info, q, hr, hq⟩ := renderStage_writes u
  have hframe : u.renderStage = { u.endCommand with errCode := code, errInfo := info, seq := q } := hr
  rw [hframe]
  refine ⟨by rw [h.frame], h.gfR, h.gen, h.matrix, h.outCount, h.cw, ?_, ?_⟩
  · exact hq.symm.imp (fun ⟨hc, hinf, _⟩ => ⟨hc.trans hcode, hinf.trans hinfo⟩) id
  · exact hq.imp And.right fun ⟨_, _, p, hp⟩ => ⟨p, hp, hi⟩

theorem gfMul_effect (s : State) (x : Byte) : CommandEffect .gfMul s (State.endCommand { s with gfR := x }) :=
  { commandEffect_endCommand .gfMul s with frame := rfl, gfR := absurd rfl }

theorem rsGen_effect (s : State) : CommandEffect .rsGen s (rsGenStage s).finish := by
  rcases rsGenStage_writes s with hs | ⟨g, hs⟩
  · rw [hs]
    exact (commandEffect_endCommand _ s).raise ErrCode.noConfusion _
  · rw [hs]
    exact { commandEffect_endCommand .rsGen s with frame := rfl, gen := absurd rfl }

theorem rsRem_effect (s : State) : CommandEffect .rsRem s (rsRemStage s).finish := by
  rcases rsRemStage_writes s with hs | ⟨g, ecs, hlen, hfit, hs⟩
  · rw [hs]
    exact (commandEffect_endCommand _ s).raise ErrCode.noConfusion _
  · rw [hs]
    exact { commandEffect_endCommand .rsRem s with
      frame := rfl
      gen := fun _ => absurd rfl
      cw := ⟨s.opL, ecs, rfl, hlen ▸ hfit, fun j hj hj' => ⟨hj, hlen ▸ hj'⟩⟩ }

theorem encode_effect (s : State) : CommandEffect .encode s (encodeStage s).finish := by
  rcases encodeStage_writes s with ⟨info, hs⟩ | ⟨cs, hlen, hs⟩
  · rw [hs]
    exact (commandEffect_endCommand _ s).raise ErrCode.noConfusion _
  · rw [hs]
    exact { commandEffect_endCommand .encode s with
      frame := rfl
      cw := ⟨0, cs, rfl, by omega, fun j _ hj => show j < 55 by omega⟩ }

theorem build_effect (s : State) : CommandEffect .build s (buildStage s).finish := by
  obtain ⟨m, hm, hs⟩ := buildStage_done s
  rw [hs]
  exact { commandEffect_endCommand .build s with frame := rfl, matrix := .inr ⟨.inl rfl, hm⟩ }

/-- The first line of RENDER and of RUN (spec/44_render.md R221, spec/45_pipeline.md R231). -/
theorem clearOutCount_effect {i : Instr} (s : State) (hi : i = .render ∨ i = .run) :
    CommandEffect i s (State.endCommand { s with outCount := 0#32 }) :=
  { commandEffect_endCommand i s with
    frame := rfl
    outCount := fun hrender hrun => (hi.elim hrender hrun).elim }

theorem run_effect (s : State) : CommandEffect .run s s.runPipeline := by
  unfold State.runPipeline
  have hclear := clearOutCount_effect s (.inr rfl)
  rcases runStages_writes { s with outCount := 0#32 } with ⟨info, hs⟩ | ⟨cs, g, m, hlen, hm, hs⟩
  · rw [hs]
    exact hclear.raise ErrCode.noConfusion info
  · rw [hs]
    refine CommandEffect.renderStage ?_ (.inr rfl) rfl rfl
    exact { hclear with
      frame := rfl
      gen := fun _ _ => absurd rfl
      matrix := .inr ⟨.inr rfl, hm⟩
      cw := ⟨0, cs, rfl, by omega, fun j _ hj => show j < 70 by omega⟩ }

/-- What every command may have written, whether it succeeded or failed (spec/10_state.md R20, spec/30_encoding.md
R95). -/
theorem exec_effect {i : Instr} {s t : State} (h : exec i s = .next t) : CommandEffect i s t := by
  cases i with
  | nop => exact Host.Outcome.next.inj h ▸ commandEffect_endCommand _ s
  | gfMul => exact Host.Outcome.next.inj h ▸ gfMul_effect s _
  | rsGen => exact Host.Outcome.next.inj h ▸ rsGen_effect s
  | rsRem => exact Host.Outcome.next.inj h ▸ rsRem_effect s
  | encode => exact Host.Outcome.next.inj h ▸ encode_effect s
  | build => exact Host.Outcome.next.inj h ▸ build_effect s
  | render => exact Host.Outcome.next.inj h ▸ (clearOutCount_effect s (.inl rfl)).renderStage (.inl rfl) rfl rfl
  | run => exact Host.Outcome.next.inj h ▸ run_effect s

/-- The fields that no command writes. -/
theorem CommandEffect.unchanged {i : Instr} {s t : State} (h : CommandEffect i s t) :
    t.dropped = s.dropped ∧ t.lastCmd = s.lastCmd ∧ t.gfA = s.gfA ∧ t.gfB = s.gfB ∧ t.rsLen = s.rsLen ∧
      t.rsDeg = s.rsDeg ∧ t.textLen = s.textLen ∧ t.scale = s.scale ∧ t.pad = s.pad ∧ t.tables = s.tables ∧
      t.text = s.text ∧ t.rst = s.rst ∧ t.inputs = s.inputs ∧ t.reads = s.reads ∧ t.sent = s.sent ∧
      t.draws = s.draws := by
  rw [h.frame]
  exact ⟨rfl, rfl, rfl, rfl, rfl, rfl, rfl, rfl, rfl, rfl, rfl, rfl, rfl, rfl, rfl, rfl⟩

theorem CommandEffect.text_eq {i : Instr} {s t : State} (h : CommandEffect i s t) : t.text = s.text := by
  rw [h.frame]

theorem CommandEffect.dropped_eq {i : Instr} {s t : State} (h : CommandEffect i s t) : t.dropped = s.dropped := by
  rw [h.frame]

/-- A CW entry outside the command's range reads as before. -/
theorem CommandEffect.read_cw {i : Instr} {s t : State} (h : CommandEffect i s t) {a : Nat} (ha : ¬ WritesCw i s a) :
    Memory.read t.cw a = Memory.read s.cw a := by
  obtain ⟨b, bs, hcw, -, hrange⟩ := h.cw
  rw [hcw, Memory.read_writeList, if_neg fun hin => ha (hrange a hin.1 hin.2)]

end Sys2Proof.Machine
end

section
/-! What a step does to MATRIX, TEXT, CW and DROPPED: a turn of the core, then the moves of the host and of the
sink. -/

namespace Sys2Proof.Machine

open Claims

/-! ### A turn of the core -/

/-- A turn of initialisation writes the sequencer, the tables and, when it fails, the error registers
(spec/70_reset_and_hazards.md R273, spec/60_exceptions.md R249). -/
theorem initStep_writes (s : State) (p : InitPos) :
    ∃ q tb code info, s.initStep p = { s with seq := q, tables := tb, errCode := code, errInfo := info } := by
  unfold State.initStep
  split
  · exact ⟨_, _, _, _, rfl⟩
  · exact ⟨_, _, _, _, rfl⟩
  · exact ⟨_, _, _, _, rfl⟩

/-- What a turn of the core does to TEXT, CW, MATRIX and DROPPED. -/
structure CoreTurnEffect (s t : State) : Prop where
  text : t.text = s.text
  /-- CW takes one run of bytes inside its 128 entries -/
  cw : ∃ a bs, t.cw = Memory.writeList s.cw a bs ∧ a + bs.length ≤ 128
  matrix : t.matrix = s.matrix ∨ MatrixComplete t.matrix
  dropped : t.dropped = s.dropped

/-- A turn that runs no command leaves all four. -/
theorem coreTurnEffect_of_eq {s t : State} (htext : t.text = s.text) (hcw : t.cw = s.cw) (hmatrix : t.matrix = s.matrix)
    (hdropped : t.dropped = s.dropped) : CoreTurnEffect s t :=
  ⟨htext, ⟨0, [], hcw, by simp⟩, .inl hmatrix, hdropped⟩

theorem coreTurn_effect {s t : State} (h : coreTurn s = .next t) : CoreTurnEffect s t := by
  rcases coreTurn_cases h with rfl | ⟨p, -, -, rfl⟩ | ⟨w, e, -, -, -, rfl⟩ | ⟨w, i, -, -, -, hexec⟩
  · exact coreTurnEffect_of_eq rfl rfl rfl rfl
  · obtain ⟨q, tb, code, info, hinit⟩ := initStep_writes s p
    rw [hinit]
    exact coreTurnEffect_of_eq rfl rfl rfl rfl
  · exact coreTurnEffect_of_eq rfl rfl rfl rfl
  · have heff := exec_effect hexec
    obtain ⟨a, bs, hcw, hfit, -⟩ := heff.cw
    exact ⟨heff.text_eq, ⟨a, bs, hcw, hfit⟩, heff.matrix.imp_right And.right, heff.dropped_eq⟩

/-! ### The host and the sink -/

theorem writeLoc_matrix (s : State) (l : Loc) (v : Word) : (s.writeLoc l v).matrix = s.matrix := by
  cases l <;> rfl

theorem writeLoc_dropped (s : State) (l : Loc) (v : Word) : (s.writeLoc l v).dropped = s.dropped := by
  cases l <;> rfl

/-- Taking or dropping a command writes none of the three memories (spec/60_exceptions.md R250). -/
theorem offerCommand_memories (s : State) (w : Word) :
    (s.offerCommand w).text = s.text ∧ (s.offerCommand w).cw = s.cw ∧ (s.offerCommand w).matrix = s.matrix := by
  rcases offerCommand_cases s w with ⟨-, h⟩ | ⟨-, h⟩
  · simp [h]
  · simp [h]

theorem offerCommand_dropped (s : State) (w : Word) (h : s.dropped = true) : (s.offerCommand w).dropped = true := by
  rcases offerCommand_cases s w with ⟨-, ho⟩ | ⟨-, ho⟩
  · simp [ho, h]
  · simp [ho]

/-- MATRIX is read-only for the host (spec/10_state.md R45). -/
theorem busWrite_matrix (s : State) (a : BitVec 16) (v : Word) : (s.busWrite a v).matrix = s.matrix := by
  rcases busWrite_cases s a v with ⟨-, h⟩ | ⟨-, ⟨-, h⟩ | ⟨-, h⟩ | ⟨-, -, -, h⟩ | ⟨-, -, -, h⟩⟩
  · rw [h]
  · rw [h, State.writeStatus_matrix]
  · rw [h, (offerCommand_memories s v).2.2]
  · rw [h, State.drop_matrix]
  · rw [h, writeLoc_matrix]

/-- A sink cycle writes none of the three memories, nor DROPPED (spec/44_render.md R217, R219). -/
theorem sinkCycle_unchanged (s : State) (ready err : Bool) :
    (s.sinkCycle ready err).text = s.text ∧ (s.sinkCycle ready err).cw = s.cw ∧
      (s.sinkCycle ready err).matrix = s.matrix ∧ (s.sinkCycle ready err).dropped = s.dropped := by
  rcases sinkCycle_cases s ready err with ⟨-, h⟩ | ⟨p, -, ⟨-, h⟩ | ⟨-, -, h⟩ | ⟨-, -, h⟩⟩
  · simp [h]
  · simp [h]
  · simp [h]
  · simp [h]

/-! ### MATRIX -/

theorem step_matrix {s t : State} (h : step s = .next t) :
    t.matrix = s.matrix ∨ t.matrix = ModuleMatrix.allUnset ∨ MatrixComplete t.matrix := by
  rcases step_cases h with hcore | ⟨a, rfl⟩ | ⟨a, v, rfl⟩ | ⟨r, e, -, rfl⟩ | rfl | rfl | rfl
  · exact (coreTurn_effect hcore).matrix.imp_right .inr
  · exact .inl rfl
  · exact .inl (busWrite_matrix s.tick a v)
  · exact .inl (sinkCycle_unchanged s.tick r e).2.2.1
  · exact .inl rfl
  · exact .inr (.inl rfl)
  · exact .inl rfl

/-! ### TEXT and CW -/

theorem writeLoc_ramsCanonical {s : State} (hs : RamsCanonical s) (l : Loc) (v : Word) :
    RamsCanonical (s.writeLoc l v) := by
  obtain ⟨htext, hcw⟩ := hs
  cases l with
  | text i => exact ⟨Memory.wf_write _ htext i.isLt, hcw⟩
  | cw i => exact ⟨htext, Memory.wf_write _ hcw i.isLt⟩
  | id | status | cmd | errInfo | gfA | gfB | gfR | rsLen | rsDeg | textLen | scale | pad | outCount | exp _ | log _
  | gen _ | matrix _ _ | reserved => exact ⟨htext, hcw⟩

theorem ramsCanonical_of_eq {s t : State} (hs : RamsCanonical s) (htext : t.text = s.text) (hcw : t.cw = s.cw) :
    RamsCanonical t := by
  unfold RamsCanonical
  rwa [htext, hcw]

theorem busWrite_ramsCanonical {s : State} (hs : RamsCanonical s) (a : BitVec 16) (v : Word) :
    RamsCanonical (s.busWrite a v) := by
  rcases busWrite_cases s a v with ⟨-, h⟩ | ⟨-, ⟨-, h⟩ | ⟨-, h⟩ | ⟨-, -, -, h⟩ | ⟨-, -, -, h⟩⟩
  · rwa [h]
  · rw [h]
    exact ramsCanonical_of_eq hs rfl rfl
  · obtain ⟨htext, hcw, -⟩ := offerCommand_memories s v
    rw [h]
    exact ramsCanonical_of_eq hs htext hcw
  · rw [h]
    exact ramsCanonical_of_eq hs rfl rfl
  · rw [h]
    exact writeLoc_ramsCanonical hs _ v

theorem coreTurn_ramsCanonical {s t : State} (hs : RamsCanonical s) (h : coreTurn s = .next t) : RamsCanonical t := by
  have heff := coreTurn_effect h
  obtain ⟨a, bs, hcw, hfit⟩ := heff.cw
  constructor
  · rw [heff.text]
    exact hs.1
  · rw [hcw]
    exact Memory.wf_writeList hs.2 hfit

/-! ### DROPPED -/

theorem locateRegister_eq_status_iff (w : Nat) : locateRegister w = .status ↔ w = 1 := by
  unfold locateRegister
  split <;> simp_all

theorem locateCell_ne_status (w : Nat) : locateCell w ≠ .status := by
  unfold locateCell
  split <;> simp

theorem locateWord_eq_status_iff (w : Nat) : locateWord w = .status ↔ w = 1 := by
  unfold locateWord
  split
  · exact locateRegister_eq_status_iff w
  · have hw : w ≠ 1 := by omega
    split_ifs <;> simp [hw, locateCell_ne_status]

/-- STATUS stands at the word address 0x0004 and nowhere else (spec/20_memory.md R64). -/
theorem locate_eq_status_iff (a : BitVec 16) : locate a = .status ↔ wordAddr a = 0x0004#16 := by
  have hword : a.toNat / 4 = 1 ↔ (wordAddr a).toNat = 4 := by
    rw [wordAddr_toNat]
    omega
  rw [locate, locateWord_eq_status_iff, hword]
  exact (BitVec.toNat_inj (y := 0x0004#16))

/-- A host write clears DROPPED only at STATUS with bit 3 set (spec/10_state.md R31). -/
theorem busWrite_clears_dropped {s : State} {a : BitVec 16} {v : Word} (hs : s.dropped = true)
    (h : (s.busWrite a v).dropped = false) : locate a = .status ∧ v.getLsbD 3 = true := by
  rcases busWrite_cases s a v with ⟨-, hw⟩ | ⟨-, ⟨hl, hw⟩ | ⟨-, hw⟩ | ⟨-, -, -, hw⟩ | ⟨-, -, -, hw⟩⟩
  · simp [hw, hs] at h
  · exact ⟨hl, by simpa [hw, hs] using h⟩
  · simp [hw, offerCommand_dropped s v hs] at h
  · simp [hw] at h
  · simp [hw, writeLoc_dropped, hs] at h

/-- Of all events only such a write and an assertion of rst clear DROPPED. -/
theorem handleInput_clears_dropped {e : Input} {s t : State} (h : handleInput e s = .next t) (hs : s.dropped = true)
    (ht : t.dropped = false) :
    (∃ a v, e = .write a v ∧ wordAddr a = 0x0004#16 ∧ v.getLsbD 3 = true) ∨ e = .reset true := by
  have hne : t.dropped ≠ s.dropped := by simp [hs, ht]
  cases e with
  | core => exact absurd (coreTurn_effect h).dropped hne
  | read a => cases h; exact absurd rfl hne
  | write a v =>
    cases h
    obtain ⟨hl, hv⟩ := busWrite_clears_dropped hs ht
    exact .inl ⟨a, v, rfl, (locate_eq_status_iff a).1 hl, hv⟩
  | sink r e =>
    cases h
    split at hne
    · exact absurd rfl hne
    · exact absurd (sinkCycle_unchanged s r e).2.2.2 hne
  | reset l =>
    cases l with
    | true => exact .inr rfl
    | false => cases h; exact absurd rfl hne

theorem step_write_status {s : State} {a : BitVec 16} {v : Word} (hrst : s.rst = false) (ha : wordAddr a = 0x0004#16)
    (hnext : NextInput s (.write a v)) : step s = .next (s.tick.writeStatus v) := by
  obtain ⟨es, hi⟩ := hnext
  simp [step_eq_of_cons hi, handleInput, State.busWrite, hrst, (locate_eq_status_iff a).2 ha]

end Sys2Proof.Machine
end

section
/-! The fields of STATUS (spec/10_state.md R31) and the built tables (spec/40_gf_arith.md R111 to R114). -/

namespace Sys2Proof.Machine

open Claims

/-! ### STATUS -/

/-- STATUS is a concatenation: a bit of it is a bit of the field it lies in (spec/10_state.md R31). -/
theorem statusWord_getLsbD (s : State) (j : Nat) :
    s.statusWord.getLsbD j =
      if j < 1 then (BitVec.ofBool s.isBusy).getLsbD j
      else if j - 1 < 1 then (BitVec.ofBool s.isReady).getLsbD (j - 1)
      else if j - 2 < 1 then (BitVec.ofBool s.isFatal).getLsbD (j - 2)
      else if j - 3 < 1 then (BitVec.ofBool s.dropped).getLsbD (j - 3)
      else if j - 4 < 4 then (0#4).getLsbD (j - 4)
      else if j - 8 < 8 then s.errCode.code.getLsbD (j - 8)
      else if j - 16 < 8 then s.lastCmd.getLsbD (j - 16)
      else (0#8).getLsbD (j - 24) := by
  unfold State.statusWord
  repeat rw [BitVec.getLsbD_append]
  simp only [Nat.sub_sub]

theorem statusWord_flags (s : State) :
    s.statusWord.getLsbD 0 = s.isBusy ∧ s.statusWord.getLsbD 1 = s.isReady ∧ s.statusWord.getLsbD 2 = s.isFatal ∧
      s.statusWord.getLsbD 3 = s.dropped := by
  simp only [statusWord_getLsbD]
  exact ⟨by simp, by simp, by simp, by simp⟩

theorem statusWord_errCode (s : State) : s.statusWord.extractLsb' 8 8 = s.errCode.code := by
  ext i hi
  rw [BitVec.getElem_extractLsb', statusWord_getLsbD]
  simp (disch := omega) only [if_neg, if_pos]
  rw [Nat.add_sub_cancel_left, BitVec.getLsbD_eq_getElem hi]

theorem statusWord_lastCmd (s : State) : s.statusWord.extractLsb' 16 8 = s.lastCmd := by
  ext i hi
  rw [BitVec.getElem_extractLsb', statusWord_getLsbD]
  simp (disch := omega) only [if_neg, if_pos]
  rw [Nat.add_sub_cancel_left, BitVec.getLsbD_eq_getElem hi]

/-! ### The built tables -/

/-- EXP[i] by its place in the list of entries; 0 beyond them. -/
theorem Tables.expAt_eq_getD (t : Tables) (i : Nat) : t.expAt i = t.exp.toList.getD i 0#8 := by
  unfold Tables.expAt
  split
  · next h => simp [h]
  · next h => simp [Nat.le_of_not_lt h]

/-- EXP[0..254], the 255 powers before EXP repeats itself. -/
def expPeriod : List Byte := expRows.take 255

theorem expPeriod_length : expPeriod.length = 255 := by decide +kernel

/-- EXP is its period twice and then the first two powers again (spec/40_gf_arith.md R113). -/
theorem builtTables_exp : builtTables.exp.toList = expPeriod ++ (expPeriod ++ [0x01#8, 0x02#8]) := by decide +kernel

theorem take_expPeriod : (expPeriod ++ (expPeriod ++ [0x01#8, 0x02#8])).take 257 = expPeriod ++ [0x01#8, 0x02#8] := by
  decide +kernel

/-- Each power is the one before doubled modulo 0x11D (spec/40_gf_arith.md R111). -/
theorem expPeriod_doubles : expPeriod.IsChain fun (a b : Byte) => b = reduce11D (a.setWidth 16 <<< 1) := by
  decide +kernel

/-- LOG numbers the powers (spec/40_gf_arith.md R111). -/
theorem log_expPeriod : expPeriod.map builtTables.logAt = List.range 255 := by decide +kernel

theorem getElem?_expPeriod {i : Nat} (h : i < 255) : expPeriod[i]? = some (builtTables.expAt i) := by
  have hi : i < expPeriod.length := expPeriod_length ▸ h
  rw [Tables.expAt_eq_getD, builtTables_exp, List.getD_append _ _ _ _ hi, List.getD_eq_getElem _ _ hi,
    List.getElem?_eq_getElem hi]

theorem builtTables_expAt_repeats {i : Nat} (hlow : 255 ≤ i) (hhigh : i < 512) :
    builtTables.expAt i = builtTables.expAt (i - 255) := by
  have hdrop : builtTables.exp.toList.drop 255 = builtTables.exp.toList.take 257 := by
    rw [builtTables_exp, take_expPeriod, List.drop_left' expPeriod_length]
  have h := congrArg (·[i - 255]?) hdrop
  simp only [List.getElem?_drop, List.getElem?_take_of_lt (show i - 255 < 257 by omega), Nat.add_sub_cancel' hlow] at h
  rw [Tables.expAt_eq_getD, Tables.expAt_eq_getD, List.getD_eq_getElem?_getD, h, List.getD_eq_getElem?_getD]

end Sys2Proof.Machine
end

section
/-! The obligations about the state (spec/10_state.md). -/

namespace Sys2Proof.Proofs

open Machine Claims

/-- Settles O56: the host writes entries of the two windows, the core one run of CW, and reset empties both. -/
theorem ramsCanonicalKept : Obligations.RamsCanonicalKept := by
  intro s t hs h
  have htick : RamsCanonical s.tick := hs
  rcases step_cases h with hcore | ⟨a, rfl⟩ | ⟨a, v, rfl⟩ | ⟨r, e, -, rfl⟩ | rfl | rfl | rfl
  · exact coreTurn_ramsCanonical htick hcore
  · exact htick
  · exact busWrite_ramsCanonical htick a v
  · obtain ⟨htext, hcw, -⟩ := sinkCycle_unchanged s.tick r e
    exact ramsCanonical_of_eq htick htext hcw
  · exact htick
  · exact ⟨Memory.wf_nil 256, Memory.wf_nil 128⟩
  · exact htick

/-- Settles O58: a step leaves MATRIX, allocates it again at reset, or has built a complete one. -/
theorem matrixSoundKept : Obligations.MatrixSoundKept := by
  intro s t hs h
  rcases step_matrix h with hsame | hnew
  · unfold MatrixSound
    rwa [hsame]
  · exact hnew

/-- Settles O13: the STATUS write, and the events that can clear DROPPED. -/
theorem onlyTheHostClearsDropped : Obligations.OnlyTheHostClearsDropped := by
  constructor
  · intro s a v hrst ha hnext
    rw [step_write_status hrst ha hnext, State.writeStatus, State.tick_dropped]
    cases v.getLsbD 3 <;> simp
  · intro s t h hs ht
    cases hi : s.inputs with
    | nil =>
      rw [step_eq_of_nil hi] at h
      have hkept : t.dropped = s.dropped := (coreTurn_effect h).dropped
      simp [hs, ht] at hkept
    | cons e es =>
      rw [step_eq_of_cons hi] at h
      rcases handleInput_clears_dropped h hs ht with ⟨a, v, rfl, ha, hv⟩ | rfl
      · exact .inl ⟨a, v, ⟨es, hi⟩, ha, hv⟩
      · exact .inr ⟨es, hi⟩

/-- Settles O59: every command has the effect its rule names, by its stages. -/
theorem commandsWriteOnlyTheirResults : Obligations.CommandsWriteOnlyTheirResults := by
  intro i s t h
  have heff := exec_effect h
  exact ⟨heff.unchanged, heff.gfR, heff.gen,
    fun hbuild hrun => heff.matrix.resolve_right fun hm => hm.1.elim hbuild hrun, heff.outCount,
    fun a => heff.read_cw, heff.error, heff.seq⟩

/-- Settles O15: the fields of the concatenation, and the flags by the states of the sequencer. -/
theorem statusWordLayout : Obligations.StatusWordLayout := by
  intro s
  obtain ⟨hbusy, hready, hfatal, hdropped⟩ := statusWord_flags s
  refine ⟨hbusy, hready, hfatal, hdropped, statusWord_errCode s, statusWord_lastCmd s, ?_, ?_, ?_, ?_, ?_, rfl, rfl, rfl,
    rfl, rfl, rfl, rfl, rfl⟩
  · cases hq : s.seq <;> simp [State.isBusy, hq]
  · cases hq : s.seq <;> simp [State.isReady, hq]
  · cases hq : s.seq <;> simp [State.isFatal, hq]
  · cases hq : s.seq <;> simp [State.isFatal, State.isReady, State.isBusy, hq]
  · cases hq : s.seq <;> simp [State.isReady, State.isBusy, hq]

/-- Settles O16: the fields of the reset state. -/
theorem resetValues : Obligations.ResetValues := by
  unfold Obligations.ResetValues
  refine ⟨rfl, by decide, rfl, rfl, rfl, rfl, rfl, rfl, rfl, rfl, rfl, rfl, ?_, fun _ => rfl, fun _ => rfl,
    ModuleMatrix.get_allUnset, ⟨_, rfl⟩, rfl⟩
  intro i
  simp [State.reset, Vector.get_eq_getElem]

/-- Settles O20: one period of powers, and EXP made of it. -/
theorem builtTablesContent : Obligations.BuiltTablesContent := by
  refine ⟨by decide +kernel, ?_, fun i => builtTables_expAt_repeats, ?_, by decide +kernel⟩
  · intro i hi
    have hlen : i + 1 < expPeriod.length := by rw [expPeriod_length]; omega
    have hdouble := List.isChain_iff_getElem.1 expPeriod_doubles i hlen
    have hthis := getElem?_expPeriod (show i < 255 by omega)
    have hnext := getElem?_expPeriod (show i + 1 < 255 by omega)
    rw [List.getElem?_eq_some_iff] at hthis hnext
    rwa [hthis.2, hnext.2] at hdouble
  · intro i hi
    have h := congrArg (·[i]?) log_expPeriod
    simpa [getElem?_expPeriod hi, hi] using h

/-- Settles O24: each invariant, of the reset state. -/
theorem resetStateIsSound : Obligations.ResetStateIsSound :=
  ⟨⟨Memory.wf_nil 256, Memory.wf_nil 128⟩, rfl, ⟨rfl, rfl⟩, .inl rfl, trivial⟩

end Sys2Proof.Proofs
end

section
/-! The address map: what each word and each address reaches (spec/20_memory.md R62, R64). -/

namespace Sys2Proof.Machine

open Claims

/-! ### The words of the map -/

theorem locateWord_of_register {w : Nat} (h : w < 0x400) : locateWord w = locateRegister w := by
  rw [locateWord, if_pos h]

theorem locateWord_of_exp {w : Nat} (h : 0x400 ≤ w ∧ w < 0x600) : locateWord w = .exp ⟨w - 0x400, by omega⟩ := by
  rw [locateWord, if_neg (by omega), dif_pos h]

theorem locateWord_of_log {w : Nat} (h : 0x600 ≤ w ∧ w < 0x700) : locateWord w = .log ⟨w - 0x600, by omega⟩ := by
  rw [locateWord, if_neg (by omega), dif_neg (by omega), dif_pos h]

theorem locateWord_of_gen {w : Nat} (h : 0x700 ≤ w ∧ w < 0x721) : locateWord w = .gen ⟨w - 0x700, by omega⟩ := by
  rw [locateWord, if_neg (by omega), dif_neg (by omega), dif_neg (by omega), dif_pos h]

theorem locateWord_of_text {w : Nat} (h : 0x800 ≤ w ∧ w < 0x900) : locateWord w = .text ⟨w - 0x800, by omega⟩ := by
  rw [locateWord, if_neg (by omega), dif_neg (by omega), dif_neg (by omega), dif_neg (by omega), dif_pos h]

theorem locateWord_of_cw {w : Nat} (h : 0x900 ≤ w ∧ w < 0x980) : locateWord w = .cw ⟨w - 0x900, by omega⟩ := by
  rw [locateWord, if_neg (by omega), dif_neg (by omega), dif_neg (by omega), dif_neg (by omega), dif_neg (by omega),
    dif_pos h]

/-- From the word 0x721 on, only the two RAMs and the matrix window are mapped. -/
theorem locateWord_beyond_gen {w : Nat} (h : 0x721 ≤ w) (htext : ¬ (0x800 ≤ w ∧ w < 0x900))
    (hcw : ¬ (0x900 ≤ w ∧ w < 0x980)) :
    locateWord w = if 0xC00 ≤ w then locateCell (w - 0xC00) else .reserved := by
  rw [locateWord, if_neg (by omega), dif_neg (by omega), dif_neg (by omega), dif_neg (by omega), dif_neg htext,
    dif_neg hcw]

theorem locateWord_of_matrix {w : Nat} (h : 0xC00 ≤ w) : locateWord w = locateCell (w - 0xC00) := by
  rw [locateWord_beyond_gen (by omega) (by omega) (by omega), if_pos h]

theorem locateWord_of_gap {w : Nat} (h : 0x721 ≤ w ∧ w < 0x800 ∨ 0x980 ≤ w ∧ w < 0xC00) :
    locateWord w = .reserved := by
  rw [locateWord_beyond_gen (by omega) (by omega) (by omega), if_neg (by omega)]

theorem locateRegister_of_gap {w : Nat} (h : 13 ≤ w) : locateRegister w = .reserved := by
  obtain ⟨n, rfl⟩ := Nat.exists_eq_add_of_le' h
  rfl

/-! ### Addresses -/

theorem locate_ofNat {b w : Nat} (hb : b = 4 * w) (hw : w < 0x4000) : locate (BitVec.ofNat 16 b) = locateWord w := by
  rw [locate, BitVec.toNat_ofNat, Nat.mod_eq_of_lt (by omega), hb, Nat.mul_div_cancel_left _ (by decide)]

/-- Where a location stands, the map finds it (spec/20_memory.md R64). -/
theorem locate_addrOf (l : Loc) : locate (addrOf l) = l := by
  cases l with
  | exp i =>
    rw [addrOf, locate_ofNat (w := 0x400 + i.val) (by omega) (by omega), locateWord_of_exp (by omega)]
    simp
  | log i =>
    rw [addrOf, locate_ofNat (w := 0x600 + i.val) (by omega) (by omega), locateWord_of_log (by omega)]
    simp
  | gen i =>
    rw [addrOf, locate_ofNat (w := 0x700 + i.val) (by omega) (by omega), locateWord_of_gen (by omega)]
    simp
  | text i =>
    rw [addrOf, locate_ofNat (w := 0x800 + i.val) (by omega) (by omega), locateWord_of_text (by omega)]
    simp
  | cw i =>
    rw [addrOf, locate_ofNat (w := 0x900 + i.val) (by omega) (by omega), locateWord_of_cw (by omega)]
    simp
  | matrix r c =>
    rw [addrOf, locate_ofNat (w := 0xC00 + (32 * r.val + c.val)) (by omega) (by omega),
      locateWord_of_matrix (by omega), Nat.add_sub_cancel_left, locateCell, dif_pos ⟨by omega, by omega⟩,
      Loc.matrix.injEq, Fin.ext_iff, Fin.ext_iff]
    exact ⟨by dsimp only; omega, by dsimp only; omega⟩
  | id | status | cmd | errInfo | gfA | gfB | gfR | rsLen | rsDeg | textLen | scale | pad | outCount | reserved => rfl

/-- What an address reaches depends on its word address: bits [1:0] are ignored (spec/20_memory.md R62). -/
theorem locate_of_wordAddr {a : BitVec 16} {l : Loc} (h : wordAddr a = addrOf l) : locate a = l := by
  rw [locate_eq_wordAddr a, show a &&& 0xFFFC#16 = addrOf l from h]
  exact locate_addrOf l

/-- For a window, whose byte addresses the map computes as numbers. -/
theorem locate_of_wordAddr_toNat {a : BitVec 16} {l : Loc} {n : Nat} (h : (wordAddr a).toNat = n)
    (hl : addrOf l = BitVec.ofNat 16 n) : locate a = l := by
  apply locate_of_wordAddr
  rw [hl, ← h, BitVec.ofNat_toNat, BitVec.setWidth_eq]

/-- A word address is four times a word number. -/
theorem exists_word (a : BitVec 16) : ∃ w, (wordAddr a).toNat = 4 * w ∧ locate a = locateWord w :=
  ⟨a.toNat / 4, by rw [wordAddr_toNat, Nat.mul_comm], rfl⟩

theorem locateWord_of_unmappedSlot {w : Nat} (h : 0xC00 ≤ w)
    (hslot : ¬ ((w - 0xC00) / 32 < 29 ∧ (w - 0xC00) % 32 < 29)) : locateWord w = .reserved := by
  rw [locateWord_of_matrix h, locateCell, dif_neg hslot]

theorem locate_of_isReserved {a : BitVec 16} (h : IsReserved a) : locate a = .reserved := by
  obtain ⟨w, hw, hlocate⟩ := exists_word a
  simp only [IsReserved, hw] at h
  rw [hlocate]
  rcases h with hregs | hgen | hcw | hslot | hend
  · rw [locateWord_of_register (by omega), locateRegister_of_gap (by omega)]
  · exact locateWord_of_gap (by omega)
  · exact locateWord_of_gap (by omega)
  · exact locateWord_of_unmappedSlot (by omega) (by omega)
  · exact locateWord_of_unmappedSlot (by omega) (by omega)

/-! ### Locations that ignore writes -/

/-- Neither STATUS nor CMD, and a performed write leaves the state as it was (spec/20_memory.md R61, R65). -/
structure Loc.IgnoresWrites (l : Loc) : Prop where
  ne_status : l ≠ .status
  ne_cmd : l ≠ .cmd
  writeLoc_eq : ∀ s v, State.writeLoc s l v = s

theorem locate_ignoresWrites_of_isReadOnly {a : BitVec 16} (h : IsReadOnly a) : (locate a).IgnoresWrites := by
  obtain ⟨w, hw, hlocate⟩ := exists_word a
  simp only [IsReadOnly, hw] at h
  rw [hlocate]
  rcases h with hid | herrInfo | hgfR | hout | hwindow | hcell
  · obtain rfl : w = 0 := by omega
    exact ⟨nofun, nofun, fun _ _ => rfl⟩
  · obtain rfl : w = 3 := by omega
    exact ⟨nofun, nofun, fun _ _ => rfl⟩
  · obtain rfl : w = 6 := by omega
    exact ⟨nofun, nofun, fun _ _ => rfl⟩
  · obtain rfl : w = 12 := by omega
    exact ⟨nofun, nofun, fun _ _ => rfl⟩
  · obtain hexp | hlog | hgen : w < 0x600 ∨ (0x600 ≤ w ∧ w < 0x700) ∨ 0x700 ≤ w := by omega
    · rw [locateWord_of_exp (by omega)]
      exact ⟨nofun, nofun, fun _ _ => rfl⟩
    · rw [locateWord_of_log hlog]
      exact ⟨nofun, nofun, fun _ _ => rfl⟩
    · rw [locateWord_of_gen (by omega)]
      exact ⟨nofun, nofun, fun _ _ => rfl⟩
  · rw [locateWord_of_matrix (by omega), locateCell, dif_pos (by omega)]
    exact ⟨nofun, nofun, fun _ _ => rfl⟩

theorem reserved_ignoresWrites : Loc.reserved.IgnoresWrites := ⟨nofun, nofun, fun _ _ => rfl⟩

end Sys2Proof.Machine
end

section
/-! Steps of the host: a read, and a write that is performed (spec/20_memory.md R60, R61). -/

namespace Sys2Proof.Machine

open Claims

/-! ### The flags as the host reads them -/

theorem busyBit_iff (s : State) : BusyBit s ↔ s.isBusy = true := by
  rw [BusyBit, (statusWord_flags s).1]

theorem readyBit_iff (s : State) : ReadyBit s ↔ s.isReady = true := by
  rw [ReadyBit, (statusWord_flags s).2.1]

theorem isBusy_eq_false {s : State} (h : ¬ BusyBit s) : s.isBusy = false := by
  rwa [busyBit_iff, Bool.not_eq_true] at h

/-- R65: bits [7:4] and [31:24] of STATUS. -/
theorem statusWord_reserved (s : State) :
    s.statusWord.extractLsb' 4 4 = 0#4 ∧ s.statusWord.extractLsb' 24 8 = 0#8 := by
  constructor
  · ext i hi
    rw [BitVec.getElem_extractLsb', statusWord_getLsbD]
    simp (disch := omega) only [if_neg, if_pos, BitVec.getLsbD_zero, BitVec.getElem_zero]
  · ext i hi
    rw [BitVec.getElem_extractLsb', statusWord_getLsbD]
    simp (disch := omega) only [if_neg, BitVec.getLsbD_zero, BitVec.getElem_zero]

/-! ### Reads -/

/-- R66: a read leaves everything but the observer's record. -/
theorem step_read {s : State} {a : BitVec 16} (hnext : NextInput s (.read a)) :
    step s = .next (answered s a (s.tick.readWord a)) := by
  obtain ⟨es, hi⟩ := hnext
  rw [step_eq_of_cons hi]
  rfl

/-- A read the spec does not leave open returns the value of what the address reaches (spec/20_memory.md R60). -/
theorem step_read_specified {s : State} {a : BitVec 16} {l : Loc} (hnext : NextInput s (.read a)) (hl : locate a = l)
    (hspec : s.readUnspecified l = false) : step s = .next (answered s a (s.tick.readLoc l)) := by
  have hspec' : s.tick.readUnspecified l = false := hspec
  rw [step_read hnext, State.readWord, hl, hspec', if_neg Bool.false_ne_true]

/-- Whether a location is an entry of EXP or LOG, whose reads wait for READY (spec/70_reset_and_hazards.md R282). -/
def Loc.isTable : Loc → Bool
  | .exp _ | .log _ => true
  | _ => false

/-- Out of reset and while BUSY = 0, what the spec leaves open is EXP and LOG before READY (R281, R282). -/
theorem readUnspecified_eq_false {s : State} {l : Loc} (hrst : s.rst = false) (hbusy : ¬ BusyBit s)
    (hready : l.isTable = true → ReadyBit s) : s.readUnspecified l = false := by
  have hb := isBusy_eq_false hbusy
  cases l with
  | exp i => simp [State.readUnspecified, hrst, hb, (readyBit_iff s).1 (hready rfl)]
  | log i => simp [State.readUnspecified, hrst, hb, (readyBit_iff s).1 (hready rfl)]
  | id | status | cmd | errInfo | gfA | gfB | gfR | rsLen | rsDeg | textLen | scale | pad | outCount | gen _ | text _
  | cw _ | matrix _ _ | reserved => simp [State.readUnspecified, hrst, hb]

/-- The registers, in the order of the map (spec/20_memory.md R64). -/
def registerLocs : List Loc :=
  [.id, .status, .cmd, .errInfo, .gfA, .gfB, .gfR, .rsLen, .rsDeg, .textLen, .scale, .pad, .outCount]

theorem registerValues_eq (s : State) :
    registerValues s = registerLocs.map fun l => (addrOf l, s.tick.readLoc l) := rfl

theorem isTable_of_mem_registerLocs : ∀ l ∈ registerLocs, l.isTable = false := by decide

theorem readLoc_text {s : State} {i : Fin 256} {b : Byte} (h : Memory.read s.text i.val = some b) :
    s.readLoc (.text i) = b.setWidth 32 := by
  simp [State.readLoc, State.textEntry, h]

theorem readLoc_cw {s : State} {i : Fin 128} {b : Byte} (h : Memory.read s.cw i.val = some b) :
    s.readLoc (.cw i) = b.setWidth 32 := by
  simp [State.readLoc, State.cwEntry, h]

/-- The fields of a word of the MATRIX window (spec/43_matrix.md R190). -/
theorem cellWord_fields (x : Cell) :
    (cellWord x).getLsbD 0 = decide (x.val = .dark) ∧ (cellWord x).getLsbD 1 = decide (x.val ≠ .unset) ∧
      (cellWord x).getLsbD 2 = x.func ∧ (cellWord x).extractLsb' 3 29 = 0#29 := by
  obtain ⟨v, f⟩ := x
  cases v <;> cases f <;> decide

/-! ### Writes -/

/-- R61: out of reset and while BUSY = 0 a write, but to STATUS or CMD, is performed on what the address reaches. -/
theorem step_write_performed {s : State} {a : BitVec 16} {v : Word} (hrst : s.rst = false) (hbusy : ¬ BusyBit s)
    (hnext : NextInput s (.write a v)) (hstatus : locate a ≠ .status) (hcmd : locate a ≠ .cmd) :
    step s = .next (s.tick.writeLoc (locate a) v) := by
  obtain ⟨es, hi⟩ := hnext
  have hb : s.tick.isBusy = false := isBusy_eq_false hbusy
  rw [step_eq_of_cons hi, handleInput]
  rcases busWrite_cases s.tick a v with ⟨hr, -⟩ | ⟨-, ⟨hl, -⟩ | ⟨hl, -⟩ | ⟨-, -, hb', -⟩ | ⟨-, -, -, h⟩⟩
  · rw [State.tick_rst, hrst] at hr
    exact absurd hr Bool.false_ne_true
  · exact absurd hl hstatus
  · exact absurd hl hcmd
  · rw [hb] at hb'
    exact absurd hb' Bool.false_ne_true
  · rw [h]

theorem step_write_ignored {s : State} {a : BitVec 16} {v : Word} (hrst : s.rst = false) (hbusy : ¬ BusyBit s)
    (hnext : NextInput s (.write a v)) (hl : (locate a).IgnoresWrites) : step s = .next s.tick := by
  rw [step_write_performed hrst hbusy hnext hl.ne_status hl.ne_cmd, hl.writeLoc_eq]

/-- The operand registers, in the order of the map (spec/20_memory.md R64). -/
def operandLocs : List Loc := [.gfA, .gfB, .rsLen, .rsDeg, .textLen, .scale, .pad]

theorem operandWrites_eq (t : State) (v : Word) :
    operandWrites t v = operandLocs.map fun l => (addrOf l, t.writeLoc l v) := rfl

theorem operandLocs_ne {l : Loc} (h : l ∈ operandLocs) : l ≠ .status ∧ l ≠ .cmd :=
  ⟨ne_of_mem_of_not_mem h (by decide), ne_of_mem_of_not_mem h (by decide)⟩

theorem writeLoc_errCode (s : State) (l : Loc) (v : Word) : (s.writeLoc l v).errCode = s.errCode := by
  cases l <;> rfl

/-- A write raises no error: ERR_CODE stays, or is cleared by the acceptance of a command (spec/60_exceptions.md
R250). -/
theorem busWrite_errCode (s : State) (a : BitVec 16) (v : Word) :
    (s.busWrite a v).errCode = s.errCode ∨
      ∃ w, (s.busWrite a v).seq = .busy w ∧ (s.busWrite a v).errCode = .noError := by
  rcases busWrite_cases s a v with ⟨-, h⟩ | ⟨-, ⟨-, h⟩ | ⟨-, h⟩ | ⟨-, -, -, h⟩ | ⟨-, -, -, h⟩⟩
  · exact .inl (by rw [h])
  · exact .inl (by rw [h, State.writeStatus_errCode])
  · rw [h]
    rcases offerCommand_cases s v with ⟨-, hoffer⟩ | ⟨-, hoffer⟩
    · rw [hoffer]
      exact .inr ⟨v, State.accept_seq s v, State.accept_errCode s v⟩
    · rw [hoffer]
      exact .inl (State.drop_errCode s)
  · exact .inl (by rw [h, State.drop_errCode])
  · exact .inl (by rw [h, writeLoc_errCode])

end Sys2Proof.Machine
end

section
/-! The obligations about the host bus (spec/20_memory.md). -/

namespace Sys2Proof.Proofs

open Machine Claims

/-- Settles O5: each register stands at its address, and none is among what the spec leaves open. -/
theorem registerReadsReturnTheirValues : Obligations.RegisterReadsReturnTheirValues := by
  intro s a v hrst hbusy hnext hmem
  rw [registerValues_eq, List.mem_map] at hmem
  obtain ⟨l, hl, heq⟩ := hmem
  obtain ⟨haddr, rfl⟩ := Prod.mk.inj heq
  exact step_read_specified hnext (locate_of_wordAddr haddr.symm)
    (readUnspecified_eq_false hrst hbusy (by simp [isTable_of_mem_registerLocs l hl]))

/-- Settles O6: each window stands at its addresses, and only EXP and LOG wait for READY. -/
theorem windowReadsReturnTheirEntries : Obligations.WindowReadsReturnTheirEntries := by
  intro s a hrst hbusy hnext
  have hread {l : Loc} {n : Nat} (hn : (wordAddr a).toNat = n) (hl : addrOf l = BitVec.ofNat 16 n)
      (hready : l.isTable = true → ReadyBit s) :
      step s = .next (answered s a (s.tick.readLoc l)) :=
    step_read_specified hnext (locate_of_wordAddr_toNat hn hl) (readUnspecified_eq_false hrst hbusy hready)
  refine ⟨fun i hready hn => hread (l := .exp i) hn rfl fun _ => hready,
    fun i hready hn => hread (l := .log i) hn rfl fun _ => hready,
    fun i hn => hread (l := .gen i) hn rfl nofun, fun i b hn hb => ?_, fun i b hn hb => ?_, fun r c hn => ?_⟩
  · rw [hread (l := .text i) hn rfl nofun, readLoc_text (s := s.tick) hb]
  · rw [hread (l := .cw i) hn rfl nofun, readLoc_cw (s := s.tick) hb]
  · exact ⟨_, hread (l := .matrix r c) hn rfl nofun, cellWord_fields (s.matrix.get r c)⟩

/-- Settles O7: every reserved address reaches the location that reads 0 and ignores writes. -/
theorem reservedAddressesAreHarmless : Obligations.ReservedAddressesAreHarmless := by
  refine ⟨fun s a hrst hbusy hres hnext => ?_, fun s a v hrst hbusy hres hnext => ?_, statusWord_reserved,
    fun s a v hnext => ?_⟩
  · exact step_read_specified hnext (locate_of_isReserved hres) (readUnspecified_eq_false hrst hbusy nofun)
  · exact step_write_ignored hrst hbusy hnext (locate_of_isReserved hres ▸ reserved_ignoresWrites)
  · rcases hnext with hread | ⟨es, hi⟩
    · exact ⟨_, step_read hread, .inl rfl⟩
    · exact ⟨_, step_eq_of_cons hi, busWrite_errCode s.tick a v⟩

/-- Settles O9: each operand register stands at its address, and a write there is performed. -/
theorem operandWritesStoreTheNamedBits : Obligations.OperandWritesStoreTheNamedBits := by
  intro s a v t hrst hbusy hnext hmem
  rw [operandWrites_eq, List.mem_map] at hmem
  obtain ⟨l, hl, heq⟩ := hmem
  obtain ⟨haddr, rfl⟩ := Prod.mk.inj heq
  obtain rfl := locate_of_wordAddr haddr.symm
  obtain ⟨hstatus, hcmd⟩ := operandLocs_ne hl
  exact step_write_performed hrst hbusy hnext hstatus hcmd

/-- Settles O10: the write is performed on the entry the address reaches. -/
theorem ramWindowWritesStoreOneByte : Obligations.RamWindowWritesStoreOneByte := by
  intro s a v hrst hbusy hnext
  have hwrite {l : Loc} {n : Nat} (hn : (wordAddr a).toNat = n) (hl : addrOf l = BitVec.ofNat 16 n)
      (hstatus : l ≠ .status) (hcmd : l ≠ .cmd) : step s = .next (s.tick.writeLoc l v) := by
    obtain rfl := locate_of_wordAddr_toNat hn hl
    exact step_write_performed hrst hbusy hnext hstatus hcmd
  exact ⟨fun i hn => ⟨_, hwrite (l := .text i) hn rfl nofun nofun, Memory.read_write_same _ _ _,
      fun j hj => Memory.read_write_other _ _ hj⟩,
    fun i hn => ⟨_, hwrite (l := .cw i) hn rfl nofun nofun, Memory.read_write_same _ _ _,
      fun j hj => Memory.read_write_other _ _ hj⟩⟩

/-- Settles O11: every read-only address reaches a location that ignores writes. -/
theorem readOnlyTargetsIgnoreWrites : Obligations.ReadOnlyTargetsIgnoreWrites :=
  fun _ _ _ hrst hbusy hro hnext => step_write_ignored hrst hbusy hnext (locate_ignoresWrites_of_isReadOnly hro)

/-- Settles O8: a read only adds to the record, and ID and STATUS are never among what BUSY leaves open. -/
theorem readsHaveNoSideEffect : Obligations.ReadsHaveNoSideEffect := by
  refine ⟨fun s a hnext => ⟨_, step_read hnext⟩, fun s a hrst _ hnext => ⟨fun hid => ?_, fun hstatus => ?_⟩⟩
  · exact step_read_specified (l := .id) hnext (locate_of_wordAddr hid) (by simp [State.readUnspecified, hrst])
  · exact step_read_specified (l := .status) hnext (locate_of_wordAddr hstatus)
      (by simp [State.readUnspecified, hrst])

end Sys2Proof.Proofs
end

section
/-! The decoder and the encoder of command words (spec/30_encoding.md R90, R95, R96). -/

namespace Sys2Proof

/-! ### The opcode map -/

theorem instrOfOpc_opcOfInstr (i : Instr) : instrOfOpc (opcOfInstr i) = some i := by cases i <;> rfl

/-- Each opcode of the map is the opcode of the command it maps to (R95). -/
theorem instrOfOpc_eq_some_iff {b : Byte} {i : Instr} : instrOfOpc b = some i ↔ b = opcOfInstr i := by
  constructor
  · intro h
    unfold instrOfOpc at h
    split at h <;> cases h <;> exact BitVec.eq_of_toNat_eq ‹_›
  · rintro rfl
    exact instrOfOpc_opcOfInstr i

/-- The opcodes outside the map are 0x08 to 0xFF (R96). -/
theorem instrOfOpc_eq_none_iff {b : Byte} : instrOfOpc b = none ↔ 0x07#8 < b := by
  rw [BitVec.lt_def, BitVec.toNat_ofNat]
  unfold instrOfOpc
  split <;> simp only [imp_false, reduceCtorEq, true_iff, false_iff] at * <;> omega

theorem exists_instrOfOpc_eq_some_iff {b : Byte} : (∃ i, instrOfOpc b = some i) ↔ b ≤ 0x07#8 := by
  rw [← Option.ne_none_iff_exists', ne_eq, instrOfOpc_eq_none_iff, BitVec.not_lt]

/-! ### Words -/

/-- R90: a word is RSV above OPC. -/
theorem rsvOf_append_opcOf (w : Word) : rsvOf w ++ opcOf w = w := by
  have h : rsvOf w ++ opcOf w = w.extractLsb' 0 (24 + 8) :=
    BitVec.extractLsb'_append_extractLsb'_eq_extractLsb' (start₁ := 0) (len₁ := 8) rfl
  rw [h, BitVec.extractLsb'_eq_self]

/-- The laws of `Laws.WordOf`, for every command. -/
theorem wordOf_statement : ∀ i : Instr, Laws.WordOf.Statement i
  | .nop => Laws.WordOf.nop
  | .gfMul => Laws.WordOf.gfMul
  | .rsGen => Laws.WordOf.rsGen
  | .rsRem => Laws.WordOf.rsRem
  | .encode => Laws.WordOf.encode
  | .build => Laws.WordOf.build
  | .render => Laws.WordOf.render
  | .run => Laws.WordOf.run

theorem decode_encode (i : Instr) : decode (encode i) = .ok i :=
  have ⟨_, _, _, h⟩ := wordOf_statement i
  h

/-- R96, first form: a reserved bit is set. -/
theorem decode_of_not_reservedZero {w : Word} (h : ¬ WordReservedZero w) : decode w = .error .reservedBits :=
  if_pos h

theorem decode_of_reservedZero_of_some {w : Word} {i : Instr} (hrsv : WordReservedZero w)
    (hopc : instrOfOpc (opcOf w) = some i) : decode w = .ok i := by
  simp [decode, rsvOf, hrsv, hopc]

/-- R96, second form: RSV is 0 and OPC is not in the map. -/
theorem decode_of_reservedZero_of_unmapped {w : Word} (hrsv : WordReservedZero w) (hopc : 0x07#8 < opcOf w) :
    decode w = .error .unmappedOpcode := by
  simp [decode, rsvOf, hrsv, instrOfOpc_eq_none_iff.2 hopc]

/-- A word is read as `i` exactly when RSV is 0 and the map takes OPC to `i` (R95). -/
theorem decode_eq_ok_iff {w : Word} {i : Instr} :
    decode w = .ok i ↔ WordReservedZero w ∧ instrOfOpc (opcOf w) = some i := by
  refine ⟨fun h => ?_, fun ⟨hrsv, hopc⟩ => decode_of_reservedZero_of_some hrsv hopc⟩
  by_cases hrsv : WordReservedZero w
  · cases hopc : instrOfOpc (opcOf w) with
    | some j =>
      rw [decode_of_reservedZero_of_some hrsv hopc, Except.ok.injEq] at h
      exact ⟨hrsv, congrArg some h⟩
    | none =>
      rw [decode_of_reservedZero_of_unmapped hrsv (instrOfOpc_eq_none_iff.1 hopc)] at h
      exact nomatch h
  · rw [decode_of_not_reservedZero hrsv] at h
    exact nomatch h

/-- The words that decode are the well-formed ones (R95, last sentence). -/
theorem exists_decode_eq_ok_iff {w : Word} : (∃ i, decode w = .ok i) ↔ WordWellFormed w := by
  simp only [decode_eq_ok_iff, exists_and_left, exists_instrOfOpc_eq_some_iff, opcOf]

theorem decode_eq_ok_iff_eq_encode {w : Word} {i : Instr} : decode w = .ok i ↔ w = encode i := by
  constructor
  · intro h
    obtain ⟨hrsv, hopc⟩ := decode_eq_ok_iff.1 h
    calc w = rsvOf w ++ opcOf w := (rsvOf_append_opcOf w).symm
      _ = encode i := by rw [encode, instrOfOpc_eq_some_iff.1 hopc, rsvOf, hrsv]
  · rintro rfl
    exact decode_encode i

/-- Both forms of R96 are refused. -/
theorem exists_decode_eq_error {w : Word} (h : ¬ WordReservedZero w ∨ 0x07#8 < opcOf w) :
    ∃ e, decode w = .error e := by
  by_cases hrsv : WordReservedZero w
  · exact ⟨_, decode_of_reservedZero_of_unmapped hrsv (h.resolve_left (not_not_intro hrsv))⟩
  · exact ⟨_, decode_of_not_reservedZero hrsv⟩

end Sys2Proof
end

section
/-! The core's turn on an accepted word (spec/30_encoding.md R97). -/

namespace Sys2Proof.Machine

open Claims

/-- With no move of the outside world, or one that is the core's, the step is a turn of the core. -/
theorem step_of_coreNext {s : State} (h : CoreNext s) : step s = coreTurn s.tick := by
  rcases h with hi | ⟨es, hi⟩
  · exact step_eq_of_nil hi
  · exact step_eq_of_cons hi

theorem coreTurn_of_busy {s : State} {w : Word} (hrst : s.rst = false) (hseq : s.seq = .busy w) :
    coreTurn s = runAccepted w s := by
  simp [coreTurn, hrst, hseq]

theorem step_of_coreNext_of_busy {s : State} {w : Word} (hrst : s.rst = false) (hnext : CoreNext s)
    (hseq : s.seq = .busy w) : step s = runAccepted w s.tick := by
  rw [step_of_coreNext hnext, coreTurn_of_busy (s := s.tick) hrst hseq]

theorem runAccepted_of_ok {w : Word} {i : Instr} (h : decode w = .ok i) (s : State) :
    runAccepted w s = exec i s := by
  simp [runAccepted, h]

theorem runAccepted_of_error {w : Word} {e : DecodeError} (h : decode w = .error e) (s : State) :
    runAccepted w s = .next (s.raise .illegalCommand w) := by
  simp [runAccepted, h]

end Sys2Proof.Machine
end

section
/-! The obligations about the command words (spec/30_encoding.md). -/

namespace Sys2Proof.Proofs

open Machine Claims

/-- Settles O1: the turn is the core's, and the core dispatches the word as `decode` reads it. -/
theorem stepRunsTheAcceptedCommand : Obligations.StepRunsTheAcceptedCommand := by
  intro s w i hrst hnext hseq hdecode
  rw [step_of_coreNext_of_busy hrst hnext hseq, runAccepted_of_ok hdecode]

/-- Settles O2: the decoder refuses both illegal forms, and a refused word raises the error. -/
theorem illegalWordsEndWithIllegalCommand : Obligations.IllegalWordsEndWithIllegalCommand := by
  intro s w hrst hnext hseq hillegal
  obtain ⟨e, hdecode⟩ := exists_decode_eq_error hillegal
  rw [step_of_coreNext_of_busy hrst hnext hseq, runAccepted_of_error hdecode]
  rfl

/-- Settles O3: the words that decode are the well-formed ones, and each is its command's RSV above its OPC. -/
theorem commandWordsAreExactlyTheEight : Obligations.CommandWordsAreExactlyTheEight :=
  ⟨fun _ => exists_decode_eq_ok_iff, fun _ _ => decode_eq_ok_iff_eq_encode⟩

/-- Settles O4: eight of the words are the encoder's, and the others have the forms the decoder refuses. -/
theorem writtenOutWordsDecode : Obligations.WrittenOutWordsDecode :=
  ⟨decode_encode .nop, decode_encode .gfMul, decode_encode .rsGen, decode_encode .rsRem, decode_encode .encode,
    decode_encode .build, decode_encode .render, decode_encode .run, decode_of_reservedZero_of_unmapped (by decide) (by decide),
    decode_of_not_reservedZero (by decide), decode_of_not_reservedZero (by decide)⟩

end Sys2Proof.Proofs
end

section
/-! The field as powers of x: EXP and LOG over the built tables, and multiplication by exponents
(spec/40_gf_arith.md R115, R120). -/

namespace Sys2Proof.Machine

open Claims

/-! ### Powers of x -/

/-- Multiplication by x modulo 0x11D (spec/40_gf_arith.md R111). -/
def gfDouble (b : Byte) : Byte := reduce11D (b.setWidth 16 <<< 1)

theorem expAt_zero : builtTables.expAt 0 = 0x01#8 := Proofs.builtTablesContent.1

theorem logAt_zero : builtTables.logAt 0#8 = 0 :=
  have ⟨_, _, _, _, hzero⟩ := Proofs.builtTablesContent
  hzero

theorem logAt_expAt {i : Nat} (h : i < 255) : builtTables.logAt (builtTables.expAt i) = i :=
  have ⟨_, _, _, hlog, _⟩ := Proofs.builtTablesContent
  hlog i h

/-- The exponent of a power counts modulo 255, as far as EXP goes. -/
theorem expAt_mod {i : Nat} (h : i < 510) : builtTables.expAt (i % 255) = builtTables.expAt i := by
  rcases Nat.lt_or_ge i 255 with hi | hi
  · rw [Nat.mod_eq_of_lt hi]
  · rw [builtTables_expAt_repeats hi (by omega), Nat.mod_eq_sub_mod hi, Nat.mod_eq_of_lt (by omega)]

theorem expAt_ne_zero {i : Nat} (h : i < 510) : builtTables.expAt i ≠ 0#8 := by
  intro hzero
  rw [← expAt_mod h] at hzero
  have hlog : i % 255 = 0 := by rw [← logAt_expAt (Nat.mod_lt i (by decide)), hzero, logAt_zero]
  rw [hlog, expAt_zero] at hzero
  exact absurd hzero (by decide)

/-- The last power of the period doubles to the first. -/
theorem gfDouble_expAt_254 : gfDouble (builtTables.expAt 254) = builtTables.expAt 0 := by decide +kernel

theorem expAt_succ {i : Nat} (h : i < 509) : builtTables.expAt (i + 1) = gfDouble (builtTables.expAt i) := by
  obtain ⟨-, hdouble, -, -, -⟩ := Proofs.builtTablesContent
  rw [← expAt_mod (show i + 1 < 510 by omega), ← expAt_mod (show i < 510 by omega), ← Nat.mod_add_mod]
  rcases Nat.lt_or_ge (i % 255) 254 with hi | hi
  · rw [Nat.mod_eq_of_lt (show i % 255 + 1 < 255 by omega), hdouble _ hi, gfDouble]
  · rw [show i % 255 = 254 by omega, gfDouble_expAt_254]

theorem iterate_gfDouble_expAt {i j : Nat} (h : i + j < 510) :
    gfDouble^[i] (builtTables.expAt j) = builtTables.expAt (i + j) := by
  induction i with
  | zero => rw [Function.iterate_zero_apply, Nat.zero_add]
  | succ i ih => rw [Function.iterate_succ_apply', ih (by omega), Nat.add_right_comm, expAt_succ (by omega)]

theorem expAt_injOn : Set.InjOn builtTables.expAt (Finset.range 255) :=
  Set.LeftInvOn.injOn (f₁' := builtTables.logAt) fun _ hi => logAt_expAt (Finset.mem_range.1 hi)

theorem card_nonzero_bytes : (Finset.univ.erase (0#8 : Byte)).card = 255 := by
  rw [Finset.card_erase_of_mem (Finset.mem_univ _), Finset.card_univ, ← FinEnum.card_eq_fintypeCard,
    FinEnum.card_bitVec]
  rfl

/-- The 255 powers differ and none is 0, so they are all the bytes but 0. -/
theorem image_expAt : (Finset.range 255).image builtTables.expAt = Finset.univ.erase 0#8 := by
  refine Finset.eq_of_subset_of_card_le (fun b hb => ?_) ?_
  · obtain ⟨i, hi, rfl⟩ := Finset.mem_image.1 hb
    exact Finset.mem_erase.2 ⟨expAt_ne_zero ((Finset.mem_range.1 hi).trans (by decide)), Finset.mem_univ _⟩
  · rw [card_nonzero_bytes, Finset.card_image_of_injOn expAt_injOn, Finset.card_range]

theorem exists_eq_expAt {a : Byte} (ha : a ≠ 0#8) : ∃ i < 255, a = builtTables.expAt i := by
  have hmem : a ∈ (Finset.range 255).image builtTables.expAt :=
    image_expAt ▸ Finset.mem_erase.2 ⟨ha, Finset.mem_univ a⟩
  obtain ⟨i, hi, rfl⟩ := Finset.mem_image.1 hmem
  exact ⟨i, Finset.mem_range.1 hi, rfl⟩

theorem eq_zero_or_eq_expAt (a : Byte) : a = 0#8 ∨ ∃ i < 255, a = builtTables.expAt i :=
  or_iff_not_imp_left.2 exists_eq_expAt

theorem logAt_lt {a : Byte} (ha : a ≠ 0#8) : builtTables.logAt a < 255 := by
  obtain ⟨i, hi, rfl⟩ := exists_eq_expAt ha
  rwa [logAt_expAt hi]

theorem expAt_logAt {a : Byte} (ha : a ≠ 0#8) : builtTables.expAt (builtTables.logAt a) = a := by
  obtain ⟨i, hi, rfl⟩ := exists_eq_expAt ha
  rw [logAt_expAt hi]

/-! ### Multiplication -/

theorem gmul_comm (t : Tables) (a b : Byte) : gmul t a b = gmul t b a := by
  simp only [gmul, or_comm, Nat.add_comm]

@[simp] theorem gmul_zero_left (t : Tables) (b : Byte) : gmul t 0#8 b = 0#8 := if_pos (.inl rfl)

@[simp] theorem gmul_zero_right (t : Tables) (a : Byte) : gmul t a 0#8 = 0#8 := if_pos (.inr rfl)

/-- Exponents add. -/
theorem gmul_expAt {i j : Nat} (hi : i < 255) (hj : j < 255) :
    gmul builtTables (builtTables.expAt i) (builtTables.expAt j) = builtTables.expAt (i + j) := by
  rw [gmul, if_neg (not_or.2 ⟨expAt_ne_zero (by omega), expAt_ne_zero (by omega)⟩), logAt_expAt hi, logAt_expAt hj]

theorem gmul_expAt_mod {i j : Nat} (hi : i < 255) (hj : j < 255) :
    gmul builtTables (builtTables.expAt i) (builtTables.expAt j) = builtTables.expAt ((i + j) % 255) := by
  rw [gmul_expAt hi hj, expAt_mod (by omega)]

theorem gmul_one (a : Byte) : gmul builtTables a 0x01#8 = a := by
  rcases eq_zero_or_eq_expAt a with rfl | ⟨i, hi, rfl⟩
  · exact gmul_zero_left _ _
  · rw [← expAt_zero, gmul_expAt hi (by decide), Nat.add_zero]

theorem eq_zero_or_eq_zero_of_gmul_eq_zero {a b : Byte} (h : gmul builtTables a b = 0#8) : a = 0#8 ∨ b = 0#8 := by
  rcases eq_zero_or_eq_expAt a with ha | ⟨i, hi, rfl⟩
  · exact .inl ha
  rcases eq_zero_or_eq_expAt b with hb | ⟨j, hj, rfl⟩
  · exact .inr hb
  rw [gmul_expAt hi hj] at h
  exact absurd h (expAt_ne_zero (by omega))

/-- The exponents of a power and of its inverse add up to 255, or to 0 for 1 itself. -/
theorem gmul_inverse {a : Byte} (ha : a ≠ 0#8) :
    gmul builtTables a (builtTables.expAt (255 - builtTables.logAt a)) = 0x01#8 := by
  obtain ⟨i, hi, rfl⟩ := exists_eq_expAt ha
  rw [logAt_expAt hi, ← expAt_mod (show 255 - i < 510 by omega), gmul_expAt_mod hi (Nat.mod_lt _ (by decide)),
    Nat.add_mod_mod, Nat.add_sub_cancel' hi.le, Nat.mod_self, expAt_zero]

theorem gmul_assoc (a b c : Byte) :
    gmul builtTables (gmul builtTables a b) c = gmul builtTables a (gmul builtTables b c) := by
  rcases eq_zero_or_eq_expAt a with rfl | ⟨i, hi, rfl⟩
  · simp
  rcases eq_zero_or_eq_expAt b with rfl | ⟨j, hj, rfl⟩
  · simp
  rcases eq_zero_or_eq_expAt c with rfl | ⟨k, hk, rfl⟩
  · simp
  have hmod (n : Nat) : n % 255 < 255 := Nat.mod_lt n (by decide)
  rw [gmul_expAt_mod hi hj, gmul_expAt_mod (hmod _) hk, gmul_expAt_mod hj hk, gmul_expAt_mod hi (hmod _),
    Nat.mod_add_mod, Nat.add_mod_mod, Nat.add_assoc]

end Sys2Proof.Machine
end

section
/-! The field as bytes under XOR: multiplication is linear, and is the reduced carry-less product
(spec/40_gf_arith.md R116, R120). -/

namespace Sys2Proof.Machine

open Claims

/-! ### Linear folds -/

/-- A fold whose round is linear is linear. -/
theorem foldl_xor {ι : Type} {m n : Nat} {f : BitVec m → BitVec n → ι → BitVec n}
    (hf : ∀ x y v w i, f (x ^^^ y) (v ^^^ w) i = f x v i ^^^ f y w i) (l : List ι) (x y : BitVec m)
    (v w : BitVec n) : l.foldl (f (x ^^^ y)) (v ^^^ w) = l.foldl (f x) v ^^^ l.foldl (f y) w := by
  induction l generalizing v w with
  | nil => rfl
  | cons i l ih => rw [List.foldl_cons, hf, ih, List.foldl_cons, List.foldl_cons]

/-- A round that adds `c` when bit `i` of `x` is set is linear. -/
theorem xor_if_getLsbD {m n : Nat} (x y : BitVec m) (v w c : BitVec n) (i : Nat) :
    (if (x ^^^ y).getLsbD i then v ^^^ w ^^^ c else v ^^^ w) =
      (if x.getLsbD i then v ^^^ c else v) ^^^ if y.getLsbD i then w ^^^ c else w := by
  rw [BitVec.getLsbD_xor]
  cases x.getLsbD i <;> cases y.getLsbD i
  · rfl
  · exact BitVec.xor_assoc v w c
  · show v ^^^ w ^^^ c = v ^^^ c ^^^ w
    ac_rfl
  · show v ^^^ w = v ^^^ c ^^^ (w ^^^ c)
    rw [BitVec.xor_comm w c, ← BitVec.xor_assoc, BitVec.xor_assoc v c c, BitVec.xor_self, BitVec.xor_zero]

theorem reduce11D_xor (v w : BitVec 16) : reduce11D (v ^^^ w) = reduce11D v ^^^ reduce11D w := by
  have hfold := foldl_xor (f := fun (_ : BitVec 0) (v : BitVec 16) (i : Nat) =>
    if v.getLsbD i then v ^^^ (0x11D#16 <<< (i - 8)) else v) (fun _ _ v w i => xor_if_getLsbD v w v w _ i)
    [14, 13, 12, 11, 10, 9, 8] 0#0 0#0 v w
  rw [reduce11D, hfold, BitVec.setWidth_xor]
  rfl

theorem clmul_xor_left (a b c : Byte) : clmul (a ^^^ b) c = clmul a c ^^^ clmul b c :=
  foldl_xor (f := fun a v i => if a.getLsbD i then v ^^^ (c.setWidth 16 <<< i) else v)
    (fun a b v w i => xor_if_getLsbD a b v w _ i) (List.range 8) a b 0#16 0#16

theorem clmul_xor_right (a b c : Byte) : clmul a (b ^^^ c) = clmul a b ^^^ clmul a c := by
  refine foldl_xor (f := fun b v i => if a.getLsbD i then v ^^^ (b.setWidth 16 <<< i) else v)
    (fun b c v w i => ?_) (List.range 8) b c 0#16 0#16
  split
  · rw [BitVec.setWidth_xor, BitVec.shiftLeft_xor_distrib]
    ac_rfl
  · rfl

theorem gfDouble_xor : Function.Semiconj₂ gfDouble (· ^^^ ·) (· ^^^ ·) := fun a b => by
  simp only [gfDouble, BitVec.setWidth_xor, BitVec.shiftLeft_xor_distrib, reduce11D_xor]

/-- Multiplication by a power of x is repeated doubling. -/
theorem gmul_expAt_eq_iterate {i : Nat} (hi : i < 255) (b : Byte) :
    gmul builtTables (builtTables.expAt i) b = gfDouble^[i] b := by
  rcases eq_zero_or_eq_expAt b with rfl | ⟨j, hj, rfl⟩
  · rw [gmul_zero_right, Function.iterate_fixed (by decide)]
  · rw [gmul_expAt hi hj, iterate_gfDouble_expAt (by omega)]

theorem gmul_xor_right (a b c : Byte) :
    gmul builtTables a (b ^^^ c) = gmul builtTables a b ^^^ gmul builtTables a c := by
  rcases eq_zero_or_eq_expAt a with rfl | ⟨i, hi, rfl⟩
  · simp
  · simp only [gmul_expAt_eq_iterate hi]
    exact gfDouble_xor.iterate i b c

theorem gmul_xor_left (a b c : Byte) :
    gmul builtTables (a ^^^ b) c = gmul builtTables a c ^^^ gmul builtTables b c := by
  simp only [gmul_comm _ _ c, gmul_xor_right]

/-! ### The carry-less product -/

/-- A byte is the XOR of its bits. -/
theorem foldl_bits_eq :
    ∀ x : Byte, (List.range 8).foldl (fun v i => if x.getLsbD i then v ^^^ (1#8 <<< i) else v) 0#8 = x := by
  decide +kernel

/-- What holds of the single bits, and of the XOR of two bytes of which it holds, holds of every byte. -/
theorem byte_xor_induction {P : Byte → Prop} (bit : ∀ i < 8, P (1#8 <<< i))
    (xor : ∀ x y, P x → P y → P (x ^^^ y)) (x : Byte) : P x := by
  have hzero : P 0#8 := xor _ _ (bit 0 (by decide)) (bit 0 (by decide))
  rw [← foldl_bits_eq x]
  refine List.foldlRecOn (motive := P) _ _ hzero fun v hv i hi => ?_
  split
  · exact xor _ _ hv (bit i (List.mem_range.1 hi))
  · exact hv

theorem gmul_bits : ∀ i < 8, ∀ j < 8,
    gmul builtTables (1#8 <<< i) (1#8 <<< j) = reduce11D (clmul (1#8 <<< i) (1#8 <<< j)) := by
  decide +kernel

/-- Both products are linear in each factor, and they agree on single bits. -/
theorem gmul_eq_reduce11D_clmul (a b : Byte) : gmul builtTables a b = reduce11D (clmul a b) := by
  induction a using byte_xor_induction with
  | bit i hi =>
    induction b using byte_xor_induction with
    | bit j hj => exact gmul_bits i hi j hj
    | xor b c hb hc => rw [gmul_xor_right, hb, hc, clmul_xor_right, reduce11D_xor]
  | xor x y hx hy => rw [gmul_xor_left, hx, hy, clmul_xor_left, reduce11D_xor]

end Sys2Proof.Machine
end

section
/-! The table construction, from any tables and any of its rounds (spec/40_gf_arith.md R111 to R114). -/

namespace Sys2Proof.Machine

/-- What holds before a fold over `Fin n`, and every round carries on to the next index, holds at its end. -/
theorem foldl_finRange_induction {α : Type} {n : Nat} {f : α → Fin n → α} {P : Nat → α → Prop} {a : α} (zero : P 0 a)
    (succ : ∀ (j : Fin n) (a : α), P j.val a → P (j.val + 1) (f a j)) : P n ((List.finRange n).foldl f a) := by
  induction n with
  | zero => exact zero
  | succ n ih =>
    rw [List.finRange_succ_last, List.foldl_append, List.foldl_map]
    exact succ (Fin.last n) _ (ih fun j => succ j.castSucc)

theorem getElem_builtTables_exp {m : Nat} (hm : m < 512) : builtTables.exp[m] = builtTables.expAt m :=
  (dif_pos hm).symm

/-- R113: the doubling gives all of EXP from its first period. -/
theorem doubleExp_eq {e : Vector Byte 512} (he : ∀ m (hm : m < 255), e[m] = builtTables.expAt m) :
    doubleExp e = builtTables.exp := by
  have hfold : ∀ m (hm : m < 512), m < 255 + 257 → (doubleExp e)[m] = builtTables.expAt m := by
    refine foldl_finRange_induction (P := fun k e => ∀ m (hm : m < 512), m < 255 + k → e[m] = builtTables.expAt m)
      (fun m _ hm => he m hm) fun j e hj m hm hlt => ?_
    rw [Vector.getElem_set]
    split
    · next heq =>
      have hrepeats := builtTables_expAt_repeats (i := j.val + 255) (by omega) (by omega)
      rw [hj j.val (by omega) (by omega), ← heq, hrepeats, Nat.add_sub_cancel]
    · exact hj m hm (by omega)
  exact Vector.ext fun m hm => (hfold m hm hm).trans (getElem_builtTables_exp hm).symm

/-- A round of the construction doubles its value (spec/40_gf_arith.md R111). -/
theorem doubleStep_setWidth : ∀ b : Byte, doubleStep (b.setWidth 9) = (gfDouble b).setWidth 9 := by decide +kernel

theorem Tables.logAt_set (e : Vector Byte 512) (l : Vector Byte 256) (x v b : Byte) :
    Tables.logAt ⟨e, l.set x.toNat v x.isLt⟩ b = if b = x then v.toNat else Tables.logAt ⟨e, l⟩ b := by
  rw [Tables.logAt, Vector.getElem_set]
  by_cases h : b = x
  · rw [if_pos (congrArg BitVec.toNat h.symm), if_pos h]
  · rw [if_neg fun heq => h (BitVec.eq_of_toNat_eq heq.symm), if_neg h, Tables.logAt]

/-- At round `i` of the loop x is power `i`, the bytes seen are the powers below it, and EXP and LOG hold these,
whatever they held before (spec/40_gf_arith.md R111, R112). -/
structure BuiltUpTo (p : InitPos) (t : Tables) : Prop where
  x : p.x = (builtTables.expAt p.i.val).setWidth 9
  seen : ∀ b : Byte, p.seen[b.toNat]'b.isLt = true ↔ b ≠ 0#8 ∧ builtTables.logAt b < p.i.val
  exp : ∀ (m : Nat) (hm : m < 255), m < p.i.val → t.exp[m] = builtTables.expAt m
  log : ∀ b : Byte, b ≠ 0#8 → builtTables.logAt b < p.i.val → t.logAt b = builtTables.logAt b

theorem builtUpTo_start (t : Tables) : BuiltUpTo InitPos.start t where
  x := by rw [InitPos.start, Fin.val_zero, expAt_zero]; rfl
  seen b := by simp [InitPos.start]
  exp m _ hm := absurd hm (Nat.not_lt_zero m)
  log b _ hb := absurd hb (Nat.not_lt_zero _)

/-- The bytes numbered below `i + 1` are those below `i` and power `i`. -/
theorem logAt_lt_succ_iff {i : Nat} (hi : i < 255) {b : Byte} :
    (b ≠ 0#8 ∧ builtTables.logAt b < i + 1) ↔ b = builtTables.expAt i ∨ (b ≠ 0#8 ∧ builtTables.logAt b < i) := by
  constructor
  · rintro ⟨hb, hlt⟩
    rcases Nat.lt_succ_iff_lt_or_eq.1 hlt with h | h
    · exact .inr ⟨hb, h⟩
    · exact .inl (h ▸ (expAt_logAt hb).symm)
  · rintro (rfl | ⟨hb, hlt⟩)
    · exact ⟨expAt_ne_zero (by omega), by rw [logAt_expAt hi]; exact Nat.lt_succ_self i⟩
    · exact ⟨hb, Nat.lt_succ_of_lt hlt⟩

/-- R112: no round fails its check, since power `i` is neither 0 nor an earlier power. -/
theorem BuiltUpTo.initTurn_more {p : InitPos} {t : Tables} (h : BuiltUpTo p t) (hi : p.i.val < 255) :
    ∃ p' t', initTurn p t = .more p' t' ∧ p'.i.val = p.i.val + 1 ∧ BuiltUpTo p' t' := by
  have hx : p.x.setWidth 8 = builtTables.expAt p.i := by
    rw [h.x, BitVec.setWidth_setWidth_of_le _ (by decide), BitVec.setWidth_eq]
  have hnonzero : p.x ≠ 0#9 := fun h0 => expAt_ne_zero (show p.i.val < 510 by omega) (by rw [← hx, h0]; rfl)
  have hnew : ¬ p.seen[(p.x.setWidth 8).toNat]'(p.x.setWidth 8).isLt = true := by
    rw [h.seen, hx, logAt_expAt hi]
    exact fun hold => Nat.lt_irrefl _ hold.2
  refine ⟨_, _, by rw [initTurn, dif_pos hi, if_neg (not_or.2 ⟨hnonzero, hnew⟩)], rfl, ?_⟩
  constructor
  case x => exact (congrArg doubleStep h.x).trans (by rw [doubleStep_setWidth, ← expAt_succ (by omega)])
  case seen =>
    intro b
    rw [logAt_lt_succ_iff hi, ← h.seen, ← hx, Vector.getElem_set]
    by_cases hb : b = p.x.setWidth 8
    · rw [if_pos (congrArg BitVec.toNat hb.symm)]
      exact iff_of_true rfl (.inl hb)
    · rw [if_neg fun heq => hb (BitVec.eq_of_toNat_eq heq.symm), or_iff_right hb]
  case exp =>
    intro m hm hlt
    show (t.exp.set p.i.val (p.x.setWidth 8) (by omega))[m] = _
    rw [Vector.getElem_set]
    split
    · next heq => rw [hx, heq]
    · next hne => exact h.exp m hm (Nat.lt_of_le_of_ne (Nat.le_of_lt_succ hlt) (Ne.symm hne))
  case log =>
    intro b hb hlt
    rw [Tables.logAt_set, hx]
    split
    · next heq => rw [heq, logAt_expAt hi, BitVec.toNat_ofNat, Nat.mod_eq_of_lt (by omega)]
    · next hne =>
      obtain ⟨-, hold⟩ := ((logAt_lt_succ_iff hi).1 ⟨hb, hlt⟩).resolve_left hne
      exact h.log b hb hold

theorem Tables.log_eq_of_logAt {t u : Tables} (h : ∀ b, t.logAt b = u.logAt b) : t.log = u.log := by
  refine Vector.ext fun m hm => ?_
  have hb := h (BitVec.ofNat 8 m)
  simp only [Tables.logAt, BitVec.toNat_ofNat, Nat.mod_eq_of_lt hm] at hb
  exact BitVec.eq_of_toNat_eq hb

/-- After the loop the last lines complete the tables (spec/40_gf_arith.md R113, R114). -/
theorem BuiltUpTo.initTurn_complete {p : InitPos} {t : Tables} (h : BuiltUpTo p t) (hi : p.i.val = 255) :
    initTurn p t = .complete builtTables := by
  have hexp : doubleExp t.exp = builtTables.exp := doubleExp_eq fun m hm => h.exp m hm (hi ▸ hm)
  have hlog : t.log.set 0 0#8 = builtTables.log := by
    refine Tables.log_eq_of_logAt (t := ⟨t.exp, t.log.set 0 0#8⟩) fun b => ?_
    refine (Tables.logAt_set t.exp t.log 0#8 0#8 b).trans ?_
    split
    · next hb => rw [hb, logAt_zero]; rfl
    · next hb => exact h.log b hb (hi ▸ logAt_lt hb)
  rw [initTurn, dif_neg (by omega), hexp, hlog]

/-- The construction, from any of its rounds, builds the tables in the turns that are left. -/
theorem BuiltUpTo.initRun_eq {p : InitPos} {t : Tables} (h : BuiltUpTo p t) {n : Nat} (hn : p.i.val + n = 256) :
    initRun n p t = some builtTables := by
  induction n generalizing p t with
  | zero => omega
  | succ n ih =>
    rcases Nat.lt_or_ge p.i.val 255 with hi | hi
    · obtain ⟨p', t', hturn, hp', h'⟩ := h.initTurn_more hi
      rw [initRun, hturn]
      exact ih h' (by omega)
    · rw [initRun, h.initTurn_complete (by omega)]

end Sys2Proof.Machine
end

section
/-! What changes EXP, LOG and READY once READY is 1 (spec/40_gf_arith.md R117, spec/70_reset_and_hazards.md R274). -/

namespace Sys2Proof.Machine

open Claims

/-! ### READY -/

theorem isReady_of_seq_eq {s t : State} (h : t.seq = s.seq) (hs : s.isReady = true) : t.isReady = true := by
  rwa [State.isReady, h]

theorem isReady_transfer (s : State) (p : RenderPos) : (s.transfer p).isReady = true := by
  unfold State.isReady State.transfer
  cases p.rest <;> rfl

/-! ### A turn of the core -/

theorem CommandEffect.tables_eq {i : Instr} {s t : State} (h : CommandEffect i s t) : t.tables = s.tables := by
  rw [h.frame]

/-- A command ends or streams: READY stays 1 either way. -/
theorem CommandEffect.isReady {i : Instr} {s t : State} (h : CommandEffect i s t) : t.isReady = true := by
  rcases h.seq with hq | ⟨p, hq, -⟩ <;> rw [State.isReady, hq]

/-- Once READY, initialisation is over, and no command writes the tables (spec/40_gf_arith.md R117). -/
theorem coreTurn_keeps_tables {s t : State} (hs : s.isReady = true) (h : coreTurn s = .next t) :
    t.tables = s.tables ∧ t.isReady = true := by
  rcases coreTurn_cases h with rfl | ⟨p, -, hq, -⟩ | ⟨w, e, -, -, -, rfl⟩ | ⟨w, i, -, -, -, hexec⟩
  · exact ⟨rfl, hs⟩
  · simp [State.isReady, hq] at hs
  · exact ⟨rfl, rfl⟩
  · have heff := exec_effect hexec
    exact ⟨heff.tables_eq, heff.isReady⟩

/-! ### The host and the sink -/

theorem writeLoc_tables_seq (s : State) (l : Loc) (v : Word) :
    (s.writeLoc l v).tables = s.tables ∧ (s.writeLoc l v).seq = s.seq := by
  cases l <;> exact ⟨rfl, rfl⟩

theorem offerCommand_keeps_tables {s : State} (hs : s.isReady = true) (w : Word) :
    (s.offerCommand w).tables = s.tables ∧ (s.offerCommand w).isReady = true := by
  rcases offerCommand_cases s w with ⟨-, h⟩ | ⟨-, h⟩
  · exact h ▸ ⟨rfl, rfl⟩
  · exact h ▸ ⟨rfl, hs⟩

/-- Host writes to EXP and LOG are ignored (spec/20_memory.md R64). -/
theorem busWrite_keeps_tables {s : State} (hs : s.isReady = true) (a : BitVec 16) (v : Word) :
    (s.busWrite a v).tables = s.tables ∧ (s.busWrite a v).isReady = true := by
  rcases busWrite_cases s a v with ⟨-, h⟩ | ⟨-, ⟨-, h⟩ | ⟨-, h⟩ | ⟨-, -, -, h⟩ | ⟨-, -, -, h⟩⟩
  · exact h.symm ▸ ⟨rfl, hs⟩
  · exact h ▸ ⟨rfl, hs⟩
  · exact h ▸ offerCommand_keeps_tables hs v
  · exact h ▸ ⟨rfl, hs⟩
  · obtain ⟨htables, hseq⟩ := writeLoc_tables_seq s (locate a) v
    exact h ▸ ⟨htables, isReady_of_seq_eq hseq hs⟩

theorem sinkCycle_keeps_tables {s : State} (hs : s.isReady = true) (ready err : Bool) :
    (s.sinkCycle ready err).tables = s.tables ∧ (s.sinkCycle ready err).isReady = true := by
  rcases sinkCycle_cases s ready err with ⟨-, h⟩ | ⟨p, -, ⟨-, h⟩ | ⟨-, -, h⟩ | ⟨-, -, h⟩⟩
  · exact h.symm ▸ ⟨rfl, hs⟩
  · exact h ▸ ⟨rfl, rfl⟩
  · exact h ▸ ⟨rfl, isReady_transfer s p⟩
  · exact h.symm ▸ ⟨rfl, hs⟩

/-- Of all events only an assertion of rst writes the tables or clears READY once it is set. -/
theorem handleInput_keeps_tables {e : Input} {s t : State} (hs : s.isReady = true) (h : handleInput e s = .next t)
    (he : e ≠ .reset true) : t.tables = s.tables ∧ t.isReady = true := by
  cases e with
  | core => exact coreTurn_keeps_tables hs h
  | read a => cases h; exact ⟨rfl, hs⟩
  | write a v => cases h; exact busWrite_keeps_tables hs a v
  | sink r e =>
    cases h
    split
    · exact ⟨rfl, hs⟩
    · exact sinkCycle_keeps_tables hs r e
  | reset l =>
    cases l with
    | true => exact absurd rfl he
    | false => cases h; exact ⟨rfl, hs⟩

theorem step_keeps_tables {s t : State} (hs : s.isReady = true) (hreset : ¬ NextInput s (.reset true))
    (h : step s = .next t) : t.tables = s.tables ∧ t.isReady = true := by
  cases hi : s.inputs with
  | nil => exact coreTurn_keeps_tables (s := s.tick) hs ((step_eq_of_nil hi).symm.trans h)
  | cons e es =>
    rw [step_eq_of_cons hi] at h
    exact handleInput_keeps_tables (s := s.tick) hs h fun he => hreset ⟨es, he ▸ hi⟩

end Sys2Proof.Machine
end

section
/-! The obligations about the GF(256) arithmetic engine (spec/40_gf_arith.md). -/

namespace Sys2Proof.Proofs

open Machine Claims

/-- Settles O23: once READY, only an assertion of rst writes the tables or leaves READY. -/
theorem tablesImmutableOnceReady : Obligations.TablesImmutableOnceReady := by
  intro s t hready hreset h
  rw [readyBit_iff] at hready ⊢
  exact step_keeps_tables hready hreset h

/-- Settles O27: the bytes but 0 are the powers of x, whose exponents add modulo 255. -/
theorem fieldLaws : Obligations.FieldLaws := fun a b =>
  ⟨gmul_one a, gmul_zero_right _ a, gmul_comm _ a b, gmul_inverse, eq_zero_or_eq_zero_of_gmul_eq_zero⟩

/-- Settles O28: both products are linear in each factor and agree on single bits. -/
theorem gmulIsCarrylessProduct : Obligations.GmulIsCarrylessProduct := gmul_eq_reduce11D_clmul

/-- Settles O29: exponents add, and multiplication by a power of x repeats the doubling, which is linear. -/
theorem gmulAssociativeDistributive : Obligations.GmulAssociativeDistributive := fun a b c =>
  ⟨gmul_assoc a b c, gmul_xor_right a b c⟩

/-- Settles O19: 255 rounds of the loop that pass their check, then the completing turn. -/
theorem initialisationBuildsTheTables : Obligations.InitialisationBuildsTheTables :=
  (builtUpTo_start Tables.reset).initRun_eq rfl

/-- Settles O26: the command writes GF_R and ends. -/
theorem gfMulCompletes : Obligations.GfMulCompletes := fun _ => rfl

end Sys2Proof.Proofs
end

section
/-! Polynomials as lists of coefficients: XOR at an offset, multiplication by a monic linear factor, and the generator
polynomials (spec/41_reed_solomon.md R130 to R132). -/

namespace Sys2Proof.Machine

open Claims

/-! ### XOR into a list -/

/-- The coefficients of `w` with those of `v` XORed in from the first on, as far as both go. -/
def xorInto : List Byte → List Byte → List Byte
  | a :: w, b :: v => (a ^^^ b) :: xorInto w v
  | w, _ => w

@[simp] theorem xorInto_nil_left (v : List Byte) : xorInto [] v = [] := rfl

@[simp] theorem xorInto_nil_right (w : List Byte) : xorInto w [] = w := by cases w <;> rfl

@[simp] theorem xorInto_cons (a b : Byte) (w v : List Byte) :
    xorInto (a :: w) (b :: v) = (a ^^^ b) :: xorInto w v := rfl

theorem xorInto_right_comm (w u v : List Byte) : xorInto (xorInto w u) v = xorInto (xorInto w v) u := by
  induction w generalizing u v with
  | nil => rfl
  | cons a w ih =>
    cases u with
    | nil => simp
    | cons b u =>
      cases v with
      | nil => simp
      | cons c v => simp only [xorInto_cons, ih u v, BitVec.xor_assoc, BitVec.xor_comm b c]

theorem xorInto_zeros_right (w : List Byte) (n : Nat) : xorInto w (List.replicate n 0#8) = w := by
  induction w generalizing n with
  | nil => rfl
  | cons a w ih =>
    cases n with
    | zero => rfl
    | succ n => simp [List.replicate_succ, ih]

theorem xorInto_zeros_left {v : List Byte} {n : Nat} (h : v.length = n) : xorInto (List.replicate n 0#8) v = v := by
  subst h
  induction v with
  | nil => rfl
  | cons b v ih => simp [List.replicate_succ, ih]

theorem xorInto_self (w : List Byte) : xorInto w w = List.replicate w.length 0#8 := by
  induction w with
  | nil => rfl
  | cons a w ih => simp [List.replicate_succ, ih]

theorem xorInto_append_left {w v : List Byte} (h : v.length ≤ w.length) (z : List Byte) :
    xorInto (w ++ z) v = xorInto w v ++ z := by
  induction w generalizing v with
  | nil => rw [List.length_eq_zero_iff.1 (Nat.le_zero.1 h), xorInto_nil_right, xorInto_nil_right]
  | cons a w ih =>
    cases v with
    | nil => simp
    | cons b v => simp [ih (Nat.le_of_succ_le_succ h)]

theorem xorInto_length (w v : List Byte) : (xorInto w v).length = w.length := by
  induction w generalizing v with
  | nil => rfl
  | cons a w ih =>
    cases v with
    | nil => simp
    | cons b v => simp [ih]

/-- The coefficients of `d ++ r` are those of `d` before zeros, with those of `r` XORed in after `d`. -/
theorem append_eq_xorInto (d r : List Byte) :
    d ++ r = xorInto (d ++ List.replicate r.length 0#8) (List.replicate d.length 0#8 ++ r) := by
  induction d with
  | nil => exact (xorInto_zeros_left rfl).symm
  | cons a d ih => simp [List.replicate_succ, ← ih]

/-! ### The rounds of XORs at an offset, as one XOR of lists -/

theorem drop_xorAt (w : List Byte) (i j : Nat) (v : Byte) : (xorAt w (i + j) v).drop i = xorAt (w.drop i) j v := by
  induction i generalizing w with
  | zero => simp
  | succ i ih =>
    cases w with
    | nil => rfl
    | cons a w => simpa [Nat.succ_add, xorAt] using ih w

/-- The inner loop of R131 and of R133 from offset 0: the polynomial `g`, scaled by `f`, is XORed in. -/
theorem foldl_xorAt (f : Byte → Byte) (g w : List Byte) :
    (List.range g.length).foldl (fun w j => xorAt w j (f (g.getD j 0#8))) w = xorInto w (g.map f) := by
  induction g generalizing w with
  | nil => simp
  | cons b g ih =>
    rw [List.length_cons, List.range_succ_eq_map, List.foldl_cons, List.foldl_map]
    cases w with
    | nil => exact List.foldlRecOn (motive := (· = [])) _ _ rfl fun u hu j _ => by rw [hu, xorAt]
    | cons a w =>
      rw [List.map_cons, xorInto_cons, ← ih]
      exact List.foldl_hom ((a ^^^ f b) :: ·) fun _ _ => rfl

/-- The inner loop of R131 and of R133 at offset `i`, seen from offset `i` on. -/
theorem drop_foldl_xorAt (f : Byte → Byte) (g w : List Byte) (i : Nat) :
    ((List.range g.length).foldl (fun w j => xorAt w (i + j) (f (g.getD j 0#8))) w).drop i =
      xorInto (w.drop i) (g.map f) := by
  rw [← foldl_xorAt]
  exact (List.foldl_hom (List.drop i) fun w j => (drop_xorAt w i j _).symm).symm

/-! ### Multiplication by a monic linear factor -/

/-- The coefficients of `p · (x + e)` from some position on: `a` is what the coefficients before have left there. -/
def mulLinear (t : Tables) (e : Byte) : Byte → List Byte → List Byte
  | a, [] => [a]
  | a, c :: p => (a ^^^ gmul t c 0x01#8) :: mulLinear t e (gmul t c e) p

theorem mulLinear_length (t : Tables) (e a : Byte) (p : List Byte) :
    (mulLinear t e a p).length = p.length + 1 := by
  induction p generalizing a with
  | nil => rfl
  | cons c p ih => rw [mulLinear, List.length_cons, ih, List.length_cons]

/-- The rounds of R131 for a second factor 1, e: each adds to two neighbouring positions. -/
theorem foldl_xorAt_linear (t : Tables) (p : List Byte) (e a : Byte) :
    (List.range p.length).foldl
        (fun r i => xorAt (xorAt r i (gmul t (p.getD i 0#8) 0x01#8)) (i + 1) (gmul t (p.getD i 0#8) e))
        (a :: List.replicate p.length 0#8) = mulLinear t e a p := by
  induction p generalizing a with
  | nil => rfl
  | cons c p ih =>
    rw [List.length_cons, List.range_succ_eq_map, List.foldl_cons, List.foldl_map, mulLinear, ← ih]
    simp only [List.replicate_succ, List.getD_cons_zero, xorAt, BitVec.zero_xor]
    exact List.foldl_hom ((a ^^^ gmul t c 0x01#8) :: ·) fun _ _ => rfl

theorem polymul_linear_eq (t : Tables) (p : List Byte) (e : Byte) :
    polymul t p [0x01#8, e] = mulLinear t e 0#8 p :=
  foldl_xorAt_linear t p e 0#8

/-! ### The generator polynomials -/

theorem generator_succ (t : Tables) (k : Nat) :
    generator t (k + 1) = mulLinear t (t.expAt k) 0#8 (generator t k) := by
  rw [← polymul_linear_eq, generator, List.range_succ, List.foldl_append]
  rfl

/-- Whatever the tables, generator(k) has k + 1 coefficients. -/
theorem generator_length (t : Tables) (k : Nat) : (generator t k).length = k + 1 := by
  induction k with
  | zero => rfl
  | succ k ih => rw [generator_succ, mulLinear_length, ih]

theorem generator_eq_cons (k : Nat) : generator builtTables k = 0x01#8 :: (generator builtTables k).tail := by
  induction k with
  | zero => rfl
  | succ k ih => rw [generator_succ, ih, mulLinear, gmul_one, BitVec.zero_xor, List.tail_cons]

/-- Horner's rule through a product with `x + e`: `u` and `v` are the values of the product and of the first factor so
far, and `a` is what the product still owes at the next position. -/
theorem foldl_mulLinear {x e u v a : Byte} (p : List Byte)
    (h : gmul builtTables u x ^^^ a = gmul builtTables v (x ^^^ e)) :
    (mulLinear builtTables e a p).foldl (fun acc c => gmul builtTables acc x ^^^ c) u =
      gmul builtTables (p.foldl (fun acc c => gmul builtTables acc x ^^^ c) v) (x ^^^ e) := by
  induction p generalizing u v a with
  | nil => exact h
  | cons c p ih =>
    rw [mulLinear, List.foldl_cons, List.foldl_cons, ih]
    calc gmul builtTables (gmul builtTables u x ^^^ (a ^^^ gmul builtTables c 0x01#8)) x ^^^ gmul builtTables c e
        = gmul builtTables (gmul builtTables v (x ^^^ e)) x ^^^ (gmul builtTables c x ^^^ gmul builtTables c e) := by
          rw [gmul_one, ← BitVec.xor_assoc, h, gmul_xor_left, BitVec.xor_assoc]
      _ = gmul builtTables (gmul builtTables v x ^^^ c) (x ^^^ e) := by
          rw [gmul_xor_left, gmul_xor_right c, gmul_assoc, gmul_assoc, gmul_comm _ x (x ^^^ e)]

theorem evalPoly_mulLinear (p : List Byte) (e x : Byte) :
    evalPoly (mulLinear builtTables e 0#8 p) x = gmul builtTables (evalPoly p x) (x ^^^ e) :=
  foldl_mulLinear p (by simp)

theorem evalPoly_generator_of_lt {i k : Nat} (h : i < k) :
    evalPoly (generator builtTables k) (builtTables.expAt i) = 0#8 := by
  induction k with
  | zero => omega
  | succ k ih =>
    rw [generator_succ, evalPoly_mulLinear]
    rcases Nat.lt_succ_iff_lt_or_eq.1 h with hlt | rfl
    · rw [ih hlt, gmul_zero_left]
    · rw [BitVec.xor_self, gmul_zero_right]

end Sys2Proof.Machine
end

section
/-! The long division, position by position (spec/41_reed_solomon.md R133). -/

namespace Sys2Proof.Machine

/-- A position of the long division, seen from that position on: the leading coefficient goes, and `g` without its
first, scaled by it, is XORed into what follows. A leading 0 needs no case of its own, since it scales `g` to 0. -/
def cancelLead (t : Tables) (g : List Byte) : List Byte → List Byte
  | [] => []
  | c :: w => xorInto w (g.tail.map fun b => gmul t b c)

theorem cancelLead_zero (t : Tables) (g w : List Byte) : cancelLead t g (0#8 :: w) = w := by
  simp only [cancelLead, gmul_zero_right, List.map_const', xorInto_zeros_right]

theorem drop_divStep (t : Tables) (g w : List Byte) (i : Nat) :
    (divStep t g w i).drop (i + 1) = cancelLead t g (w.drop i) := by
  cases hw : w.drop i with
  | nil =>
    have hlen : w.length ≤ i := List.drop_eq_nil_iff.1 hw
    exact List.drop_eq_nil_of_le (by rw [divStep_length]; omega)
  | cons c v =>
    have hlead : w.getD i 0#8 = c := by rw [List.getD_eq_getElem?_getD, ← List.head?_drop, hw]; rfl
    rw [← List.tail_drop]
    simp only [divStep, hlead]
    split
    · next hzero => rw [hzero, cancelLead_zero, hw, List.tail_cons]
    · rw [drop_foldl_xorAt (gmul t · c), hw, cancelLead]
      cases g with
      | nil => simp
      | cons b g => rfl

/-- The first `n` positions of the division, seen from behind them. -/
theorem drop_foldl_divStep (t : Tables) (g w : List Byte) (n : Nat) :
    ((List.range n).foldl (divStep t g) w).drop n = (cancelLead t g)^[n] w := by
  induction n with
  | zero => rfl
  | succ n ih =>
    rw [List.range_succ, List.foldl_append, Function.iterate_succ_apply', ← ih]
    exact drop_divStep t g _ n

theorem remainder_eq_iterate (t : Tables) (d : List Byte) (k : Nat) :
    remainder t d k = (cancelLead t (generator t k))^[d.length] (d ++ List.replicate k 0#8) :=
  drop_foldl_divStep t _ _ _

/-! ### Remainders (spec/41_reed_solomon.md R136) -/

theorem iterate_cancelLead_zeros (t : Tables) (g w : List Byte) (n : Nat) :
    (cancelLead t g)^[n] (List.replicate n 0#8 ++ w) = w := by
  induction n with
  | zero => rfl
  | succ n ih => rw [Function.iterate_succ_apply, List.replicate_succ, List.cons_append, cancelLead_zero, ih]

/-- What is XORed in beyond the positions divided changes no leading coefficient, and stays. -/
theorem iterate_cancelLead_xorInto (t : Tables) (g w v : List Byte) (n : Nat) :
    (cancelLead t g)^[n] (xorInto w (List.replicate n 0#8 ++ v)) = xorInto ((cancelLead t g)^[n] w) v := by
  induction n generalizing w with
  | zero => rfl
  | succ n ih =>
    rw [Function.iterate_succ_apply, Function.iterate_succ_apply, ← ih]
    congr 1
    cases w with
    | nil => rfl
    | cons c w =>
      rw [List.replicate_succ, List.cons_append, xorInto_cons, BitVec.xor_zero]
      exact xorInto_right_comm _ _ _

/-- What stands beyond the reach of `g` stays. -/
theorem iterate_cancelLead_append (t : Tables) (g z : List Byte) {n : Nat} {w : List Byte}
    (h : n + g.tail.length ≤ w.length) : (cancelLead t g)^[n] (w ++ z) = (cancelLead t g)^[n] w ++ z := by
  induction n generalizing w with
  | zero => rfl
  | succ n ih =>
    cases w with
    | nil => simp at h
    | cons c w =>
      rw [List.length_cons] at h
      rw [Function.iterate_succ_apply, Function.iterate_succ_apply, List.cons_append, cancelLead,
        xorInto_append_left (by rw [List.length_map]; omega), ih (by rw [xorInto_length]; omega), cancelLead]

/-- Dividing the data with `r` behind it leaves the remainder of the data with `r` XORed in. -/
theorem iterate_cancelLead_data (t : Tables) (d : List Byte) {r : List Byte} {k : Nat} (hr : r.length = k) :
    (cancelLead t (generator t k))^[d.length] (d ++ r) = xorInto (remainder t d k) r := by
  rw [append_eq_xorInto, iterate_cancelLead_xorInto, hr, remainder_eq_iterate]

theorem remainder_append_remainder (t : Tables) (d : List Byte) (k : Nat) :
    remainder t (d ++ remainder t d k) k = List.replicate k 0#8 := by
  have hlen := remainder_length t d k
  have hdata : (cancelLead t (generator t k))^[d.length] (d ++ remainder t d k) = List.replicate k 0#8 := by
    rw [iterate_cancelLead_data t d hlen, xorInto_self, hlen]
  rw [remainder_eq_iterate, List.length_append, hlen, Nat.add_comm, Function.iterate_add_apply,
    iterate_cancelLead_append _ _ _ (by rw [List.length_tail, generator_length, List.length_append, hlen]; rfl),
    hdata, iterate_cancelLead_zeros]

theorem remainder_zeros (t : Tables) (l k : Nat) :
    remainder t (List.replicate l 0#8) k = List.replicate k 0#8 := by
  rw [remainder_eq_iterate, List.length_replicate, iterate_cancelLead_zeros]

theorem remainder_one (k : Nat) : remainder builtTables [0x01#8] k = (generator builtTables k).tail := by
  have hone : (generator builtTables k).tail.map (fun b => gmul builtTables b 0x01#8) =
      (generator builtTables k).tail := by simp only [gmul_one, List.map_id']
  have hlen : (generator builtTables k).tail.length = k := by rw [List.length_tail, generator_length]; rfl
  calc remainder builtTables [0x01#8] k
      = xorInto (List.replicate k 0#8) ((generator builtTables k).tail.map fun b => gmul builtTables b 0x01#8) :=
        remainder_eq_iterate builtTables [0x01#8] k
    _ = (generator builtTables k).tail := by rw [hone, xorInto_zeros_left hlen]

end Sys2Proof.Machine
end

section
/-! RS_GEN and RS_REM, where they complete: what GEN and CW hold then (spec/41_reed_solomon.md R134, R135). -/

namespace Sys2Proof.Machine

theorem genOf_get (g : List Byte) (j : Fin 33) : (genOf g).get j = g.getD j.val 0#8 := by
  rw [genOf, Vector.get_ofFn]

/-- GEN holds the coefficients of generator(k), then zeros. -/
theorem genOf_generator_get (t : Tables) (k : Nat) (j : Fin 33) :
    (genOf (generator t k)).get j = if j.val ≤ k then (generator t k).getD j.val 0#8 else 0#8 := by
  rw [genOf_get]
  split
  · rfl
  · exact List.getD_eq_default _ _ (by rw [generator_length]; omega)

/-- What a read of CW sees after coding: the remainder in its place, the old entries elsewhere. -/
theorem read_rsCode_cw (s : State) (l k a : Nat) :
    Memory.read (s.rsCode l k).cw a =
      if l ≤ a ∧ a < l + k then (remainder s.tables (s.cwPrefix l) k)[a - l]? else Memory.read s.cw a := by
  rw [State.rsCode_cw, Memory.read_writeList, remainder_length]

theorem read_rsCode_cw_remainder (s : State) (l : Nat) {k j : Nat} (hj : j < k) :
    Memory.read (s.rsCode l k).cw (l + j) = (remainder s.tables (s.cwPrefix l) k)[j]? := by
  rw [read_rsCode_cw, if_pos (by omega), Nat.add_sub_cancel_left]

theorem exec_rsGen (s : State) : exec .rsGen s = .next (rsGenStage s).finish := rfl

theorem exec_rsRem (s : State) : exec .rsRem s = .next (rsRemStage s).finish := rfl

theorem exec_rsGen_of_inRange {s : State} (hk : s.opK ≤ 32) :
    exec .rsGen s = .next { s with gen := genOf (generator s.tables s.opK), seq := .idle } := by
  obtain ⟨-, hs⟩ := (rsGenStage_cases s).resolve_left fun ⟨hout, _⟩ => by omega
  rw [exec_rsGen, hs]
  rfl

theorem exec_rsRem_of_inRange {s : State} (hk : s.opK ≤ 32) (hfit : s.opL + s.opK ≤ 128) :
    exec .rsRem s = .next (s.rsCode s.opL s.opK).endCommand := by
  obtain ⟨-, -, hs⟩ := (rsRemStage_cases s).resolve_left fun ⟨hout, _⟩ => by omega
  rw [exec_rsRem, hs, Stage.finish_done]

end Sys2Proof.Machine
end

section
/-! The obligations about the Reed-Solomon coder (spec/41_reed_solomon.md). -/

namespace Sys2Proof.Proofs

open Machine Claims

/-- Settles O30: in range the stage completes, and generator(k) ends at its coefficient k. -/
theorem rsGenCompletes : Obligations.RsGenCompletes := fun s hk =>
  ⟨_, exec_rsGen_of_inRange hk, genOf_generator_get s.tables s.opK⟩

/-- Settles O31: in range the stage completes, and the remainder has the k coefficients that CW takes. -/
theorem rsRemCompletes : Obligations.RsRemCompletes := by
  intro s hk hfit
  have hrem {j : Nat} (hj : j < s.opK) := read_rsCode_cw_remainder s s.opL hj
  refine ⟨_, _, exec_rsRem_of_inRange hk hfit, genOf_generator_get s.tables s.opK, fun j => hrem, fun j hj => ?_,
    fun a ha => ?_⟩
  · have hlen : j < (remainder s.tables (s.cwPrefix s.opL) s.opK).length := by rwa [remainder_length]
    exact Option.isSome_of_eq_some ((hrem hj).trans (List.getElem?_eq_getElem hlen))
  · exact (read_rsCode_cw s s.opL s.opK a).trans (if_neg (by simp only [State.opL, State.opK]; omega))

/-- Settles O33: each factor x + EXP[i] is monic and adds one coefficient, and a product vanishes where a factor
does. -/
theorem generatorIsMonic : Obligations.GeneratorIsMonic :=
  ⟨fun k => ⟨generator_length _ k, by rw [generator_eq_cons]; rfl⟩, fun _ _ _ => evalPoly_generator_of_lt⟩

/-- Settles O34: the remainder appended cancels itself, and zeros divide to zeros. -/
theorem remainderRoundTrip : Obligations.RemainderRoundTrip := fun t d k =>
  ⟨remainder_length t d k, remainder_append_remainder t d k⟩

/-- Settles O35: zeros never scale the generator, 1 scales it to itself, and degree 0 has no coefficient to leave. -/
theorem remainderOfZerosAndOne : Obligations.RemainderOfZerosAndOne :=
  ⟨remainder_zeros, remainder_one, fun t d => List.length_eq_zero_iff.1 (remainder_length t d 0)⟩

end Sys2Proof.Proofs
end

section
/-! The bit stream: packing undoes what the fields append, a nibble behind the byte boundaries
(spec/42_bitstream.md R152 to R155). -/

namespace Sys2Proof.Machine

open Claims

/-! ### Fields and bytes -/

/-- A field made of two appends the first, then the second. -/
theorem msbBits_append {v w : Nat} (x : BitVec v) (y : BitVec w) : msbBits (x ++ y) = msbBits x ++ msbBits y := by
  simp only [msbBits, List.range_add, List.map_append, List.map_map]
  congr 1
  · refine List.map_congr_left fun t ht => ?_
    have hlt : t < v := List.mem_range.1 ht
    rw [BitVec.getLsbD_append, if_neg (by omega), show v + w - 1 - t - w = v - 1 - t by omega]
  · refine List.map_congr_left fun t ht => ?_
    have hlt : t < w := List.mem_range.1 ht
    rw [Function.comp_apply, BitVec.getLsbD_append, if_pos (by omega),
      show v + w - 1 - (v + t) = w - 1 - t by omega]

theorem byteOfBits_msbBits : ∀ b : Byte, byteOfBits (msbBits b) = b := by decide +kernel

theorem packBits_msbBits_append (b : Byte) (rest : List Bool) : packBits (msbBits b ++ rest) = b :: packBits rest :=
  congrArg (· :: packBits rest) (byteOfBits_msbBits b)

/-! ### Nibbles -/

/-- The bits of a byte's low nibble, the most significant first. -/
def lowNibbleBits (b : Byte) : List Bool := msbBits (b.extractLsb' 0 4)

/-- The bits of a byte's high nibble, the most significant first. -/
def highNibbleBits (b : Byte) : List Bool := msbBits (b.extractLsb' 4 4)

theorem msbBits_eq_nibbles (b : Byte) : msbBits b = highNibbleBits b ++ lowNibbleBits b := by
  have hb : b.extractLsb' 4 4 ++ b.extractLsb' 0 4 = b := by
    rw [BitVec.extractLsb'_append_extractLsb'_eq_extractLsb' (by rfl), BitVec.extractLsb'_eq_self]
  rw [highNibbleBits, lowNibbleBits, ← msbBits_append, hb]

theorem msbBits_splice (a b : Byte) : msbBits (splice a b) = lowNibbleBits a ++ highNibbleBits b :=
  msbBits_append _ _

/-- Bytes that begin in the middle of a codeword: each codeword splices two neighbours, and four zero bits complete
the last (spec/42_bitstream.md R154). -/
theorem packBits_nibble_shifted (a : Byte) (bs : List Byte) :
    packBits (lowNibbleBits a ++ bs.flatMap msbBits ++ List.replicate 4 false) =
      List.zipWith splice (a :: bs) (bs ++ [0x00#8]) := by
  induction bs generalizing a with
  | nil =>
    calc packBits (lowNibbleBits a ++ [] ++ highNibbleBits 0x00#8)
        = packBits (msbBits (splice a 0x00#8) ++ []) := by rw [msbBits_splice, List.append_nil, List.append_nil]
      _ = [splice a 0x00#8] := packBits_msbBits_append _ _
  | cons b bs ih =>
    calc packBits (lowNibbleBits a ++ (msbBits b ++ bs.flatMap msbBits) ++ List.replicate 4 false)
        = packBits (msbBits (splice a b) ++ (lowNibbleBits b ++ bs.flatMap msbBits ++ List.replicate 4 false)) := by
          rw [msbBits_splice, msbBits_eq_nibbles b]
          simp only [List.append_assoc]
      _ = splice a b :: List.zipWith splice (b :: bs) (bs ++ [0x00#8]) := by rw [packBits_msbBits_append, ih]

/-! ### The seven steps -/

/-- The mode indicator is the low nibble of 0x04. -/
theorem payloadBits_eq (n : Byte) (bytes : List Byte) :
    payloadBits n bytes = lowNibbleBits 0x04#8 ++ (n :: bytes).flatMap msbBits :=
  List.append_assoc _ _ _

/-- R153: text that fits always leaves room for the four bits of the terminator. -/
theorem withTerminator_payloadBits (n : Byte) {bytes : List Byte} (h : bytes.length ≤ 53) :
    withTerminator (payloadBits n bytes) = payloadBits n bytes ++ List.replicate 4 false := by
  have hroom : min 4 (capacityBits - neededBits bytes.length) = 4 := by
    rw [capacityBits, neededBits]
    omega
  rw [withTerminator, payloadBits_length, hroom]

/-- R154: nothing is appended at a byte boundary. -/
theorem withAlignment_of_dvd {b : List Bool} (h : 8 ∣ b.length) : withAlignment b = b := by
  rw [withAlignment, Nat.mod_eq_zero_of_dvd h]
  exact List.append_nil b

/-- R154: the codewords before the pads. -/
theorem packBits_payload (n : Byte) {bytes : List Byte} (h : bytes.length ≤ 53) :
    packBits (withAlignment (withTerminator (payloadBits n bytes))) =
      splice 0x04#8 n :: List.zipWith splice (n :: bytes) (bytes ++ [0x00#8]) := by
  have hdvd : 8 ∣ (payloadBits n bytes ++ List.replicate 4 false).length := by
    rw [List.length_append, payloadBits_length, neededBits, List.length_replicate]
    omega
  rw [withTerminator_payloadBits n h, withAlignment_of_dvd hdvd, payloadBits_eq, packBits_nibble_shifted]
  rfl

/-- R155: the pads follow the n + 2 codewords of the closed form. -/
theorem dataCodewords_eq_closedForm {n : Byte} {bytes : List Byte} (hn : bytes.length = n.toNat)
    (h : n.toNat ≤ 53) : dataCodewords n bytes = closedForm n bytes := by
  have hlen : (splice 0x04#8 n :: List.zipWith splice (n :: bytes) (bytes ++ [0x00#8])).length = n.toNat + 2 := by
    simp [hn]
  have hpads : 55 - (n.toNat + 2) = 53 - n.toNat := by omega
  rw [dataCodewords, packBits_payload n (hn.trans_le h), withPads, hlen, hpads, closedForm]

end Sys2Proof.Machine
end

section
/-! ENCODE, where it completes: what CW holds then (spec/42_bitstream.md R156). -/

namespace Sys2Proof.Machine

theorem exec_encode (s : State) : exec .encode s = .next (encodeStage s).finish := rfl

theorem exec_encode_of_fits {s : State} (hn : s.opN ≤ 53) :
    exec .encode s =
      .next { s with
        cw := Memory.writeList s.cw 0 (dataCodewords s.textLen (s.textPrefix s.opN)), seq := .idle } := by
  obtain ⟨-, hs⟩ := (encodeStage_cases s).resolve_left fun ⟨hover, _⟩ => by omega
  rw [exec_encode, hs]
  rfl

theorem dataCodewords_textPrefix_length {s : State} (hn : s.opN ≤ 53) :
    (dataCodewords s.textLen (s.textPrefix s.opN)).length = 55 :=
  dataCodewords_length _ (by simpa [State.textPrefix] using hn)

/-- What a read of CW sees after encoding: the data codewords in CW[0..54], the old entries elsewhere. -/
theorem read_encoded_cw {s : State} (hn : s.opN ≤ 53) (a : Nat) :
    Memory.read (Memory.writeList s.cw 0 (dataCodewords s.textLen (s.textPrefix s.opN))) a =
      if a < 55 then (dataCodewords s.textLen (s.textPrefix s.opN))[a]? else Memory.read s.cw a := by
  simp only [Memory.read_writeList, dataCodewords_textPrefix_length hn, Nat.zero_le, true_and, Nat.zero_add,
    Nat.sub_zero]

end Sys2Proof.Machine
end

section
/-! The obligations about the bit-stream encoder (spec/42_bitstream.md). -/

namespace Sys2Proof.Proofs

open Machine Claims

/-- Settles O36: text that fits completes, and the 55 data codewords are what CW[0..54] takes. -/
theorem encodeCompletes : Obligations.EncodeCompletes := by
  intro s hn
  have hdata {a : Nat} (ha : a < 55) := (read_encoded_cw (s := s) hn a).trans (if_pos ha)
  refine ⟨_, exec_encode_of_fits hn, fun a => hdata, fun a ha => ?_, fun a ha =>
    (read_encoded_cw hn a).trans (if_neg (by omega))⟩
  have hlen : a < (dataCodewords s.textLen (s.textPrefix s.opN)).length := by
    rwa [dataCodewords_textPrefix_length hn]
  exact Option.isSome_of_eq_some ((hdata ha).trans (List.getElem?_eq_getElem hlen))

/-- Settles O37: the mode indicator shifts the stream by a nibble, so the codewords splice neighbouring bytes. -/
theorem codewordsClosedForm : Obligations.CodewordsClosedForm := fun n _ hlen hn =>
  ⟨dataCodewords_eq_closedForm hlen hn, dataCodewords_length n (hlen.trans_le hn)⟩

end Sys2Proof.Proofs
end

section
/-! What a built matrix holds: the function cells the same for every input, and the masked codeword bits in the data
cells (spec/43_matrix.md R172 to R191). -/

namespace Sys2Proof.Machine

open Claims

/-! ### Phase 5: placement along a walk -/

/-- What a placement that passes its checks does at the first cell of the walk. -/
theorem placeData_cons_ok {r c : Fin 29} {cs : List (Fin 29 × Fin 29)} {bits : List Bool} {m m' : ModuleMatrix}
    (h : placeData ((r, c) :: cs) bits m = .ok m') :
    ((m.get r c).func = true ∧ placeData cs bits m = .ok m') ∨
      ((m.get r c).func = false ∧ (m.get r c).val = .unset ∧
        placeData cs bits.tail (m.set r c ⟨bitVal bits.head?, false⟩) = .ok m') := by
  unfold placeData at h
  split at h
  · next hf => exact .inl ⟨hf, h⟩
  · next hf =>
    split at h
    · cases h
    · next hv => exact .inr ⟨Bool.eq_false_iff.2 hf, Decidable.not_not.1 hv, h⟩

/-- Placement touches neither a function cell nor a cell that has its value (spec/43_matrix.md R182). -/
theorem placeData_keeps {cs : List (Fin 29 × Fin 29)} {bits : List Bool} {m m' : ModuleMatrix} {r c : Fin 29}
    (h : placeData cs bits m = .ok m') (hrc : (m.get r c).func = true ∨ (m.get r c).val ≠ .unset) :
    m'.get r c = m.get r c := by
  induction cs generalizing bits m with
  | nil => cases h; rfl
  | cons p cs ih =>
    obtain ⟨r₀, c₀⟩ := p
    rcases placeData_cons_ok h with ⟨-, h⟩ | ⟨hf, hv, h⟩
    · exact ih h hrc
    · have hne : ¬ (r₀ = r ∧ c₀ = c) := by
        rintro ⟨rfl, rfl⟩
        simp [hf, hv] at hrc
      have hsame := m.get_set_other ⟨bitVal bits.head?, false⟩ hne
      rw [ih h (by rwa [hsame]), hsame]

/-- A data cell that takes a value stays a data cell, and no other changes its kind. -/
theorem ModuleMatrix.func_set_data {m : ModuleMatrix} {r c : Fin 29} (hf : (m.get r c).func = false) (v : Val)
    (r' c' : Fin 29) : ((m.set r c ⟨v, false⟩).get r' c').func = (m.get r' c').func := by
  rw [ModuleMatrix.get_set]
  split
  · next h => rw [← h.1, ← h.2, hf]
  · rfl

/-- The k-th data cell of the walk takes the k-th bit (spec/43_matrix.md R182, R183). -/
theorem placeData_get_data {cs : List (Fin 29 × Fin 29)} {bits : List Bool} {m m' : ModuleMatrix} {k : Nat}
    {r c : Fin 29} (h : placeData cs bits m = .ok m')
    (hk : (cs.filter fun p => (m.get p.1 p.2).func = false)[k]? = some (r, c)) :
    m'.get r c = ⟨bitVal bits[k]?, false⟩ := by
  induction cs generalizing bits m k with
  | nil => simp at hk
  | cons p cs ih =>
    obtain ⟨r₀, c₀⟩ := p
    rcases placeData_cons_ok h with ⟨hf, h⟩ | ⟨hf, -, h⟩
    · exact ih h (by simpa [hf] using hk)
    · rw [List.filter_cons_of_pos (by simpa using hf)] at hk
      cases k with
      | zero =>
        obtain ⟨rfl, rfl⟩ : r₀ = r ∧ c₀ = c := by simpa using hk
        have hset := m.get_set_same r₀ c₀ ⟨bitVal bits.head?, false⟩
        rw [placeData_keeps h (.inr (by rw [hset]; exact bitVal_ne_unset _)), hset, List.head?_eq_getElem?]
      | succ k =>
        rw [ih (k := k) h (by simpa [ModuleMatrix.func_set_data hf] using hk), List.getElem?_tail]

/-! ### The bit sequence -/

theorem bitVal_some (b : Bool) : bitVal (some b) = moduleOf b := by cases b <;> rfl

/-- S[k] is the k-th placed bit, and the cells beyond the bits are Light (spec/43_matrix.md R181, R183). -/
theorem bitVal_placementBits (codewords : List Byte) (k : Nat) :
    bitVal (placementBits codewords)[k]? = moduleOf (dataBit codewords k) := by
  induction codewords generalizing k with
  | nil => simp [placementBits, dataBit, bitVal, moduleOf]
  | cons b bs ih =>
    rw [placementBits, List.flatMap_cons, List.getElem?_append, msbBits_length]
    split
    · next hk =>
      have hbit : dataBit (b :: bs) k = b.getLsbD (7 - k) := by
        rw [dataBit, Nat.div_eq_of_lt hk, Nat.mod_eq_of_lt hk, List.getD_cons_zero]
      rw [hbit, msbBits, List.getElem?_map, List.getElem?_range hk, Option.map_some, bitVal_some]
    · next hk =>
      have hbit : dataBit (b :: bs) k = dataBit bs (k - 8) := by
        rw [dataBit, dataBit, show k / 8 = (k - 8) / 8 + 1 by omega, show k % 8 = (k - 8) % 8 by omega,
          List.getD_cons_succ]
      rw [hbit]
      exact ih (k - 8)

/-! ### Phase 6: masking -/

theorem allCells_nodup : allCells.Nodup := (List.nodup_finRange 29).product (List.nodup_finRange 29)

/-- A cell after its masking: a data cell is flipped where MASK is 1 (spec/43_matrix.md R184). -/
def maskedCell (mask : Bool) (x : Cell) : Cell :=
  if x.func = false ∧ mask = true then ⟨flipVal x.val, false⟩ else x

theorem maskedCell_of_func {x : Cell} (hf : x.func = true) (mask : Bool) : maskedCell mask x = x := by
  simp [maskedCell, hf]

/-- Flipping a bit's module is XOR with 1 (spec/43_matrix.md R184). -/
theorem maskedCell_data (mask b : Bool) :
    maskedCell mask ⟨moduleOf b, false⟩ = ⟨moduleOf (b ^^ mask), false⟩ := by
  cases mask <;> cases b <;> rfl

theorem maskCell_get (m : ModuleMatrix) (r c r' c' : Fin 29) :
    (maskCell m r c).get r' c' = if r = r' ∧ c = c' then maskedCell (maskAt r c) (m.get r c) else m.get r' c' := by
  unfold maskCell maskedCell
  split
  · exact m.get_set r c r' c' _
  · split
    · next h => rw [h.1, h.2]
    · rfl

/-- Masking in an order that visits no cell twice takes each of its cells by itself. -/
theorem foldl_maskCell_get {cs : List (Fin 29 × Fin 29)} (hnodup : cs.Nodup) (m : ModuleMatrix) (r c : Fin 29) :
    (cs.foldl (fun m p => maskCell m p.1 p.2) m).get r c =
      if (r, c) ∈ cs then maskedCell (maskAt r c) (m.get r c) else m.get r c := by
  induction cs generalizing m with
  | nil => rfl
  | cons p cs ih =>
    obtain ⟨r₀, c₀⟩ := p
    obtain ⟨hnew, hrest⟩ := List.nodup_cons.1 hnodup
    rw [List.foldl_cons, ih hrest, maskCell_get]
    by_cases heq : r₀ = r ∧ c₀ = c
    · obtain ⟨rfl, rfl⟩ := heq
      simp [hnew]
    · have hmem : (r, c) ∈ (r₀, c₀) :: cs ↔ (r, c) ∈ cs := by
        rw [List.mem_cons, or_iff_right]
        rintro ⟨⟩
        exact heq ⟨rfl, rfl⟩
      simp only [if_neg heq, hmem]

/-- Masking takes each cell by itself (spec/43_matrix.md R184). -/
theorem phaseMask_get (m : ModuleMatrix) (r c : Fin 29) :
    (phaseMask m).get r c = maskedCell (maskAt r c) (m.get r c) := by
  rw [phaseMask, foldl_maskCell_get allCells_nodup, if_pos (mem_allCells _)]

/-! ### Phase 7: the overlay -/

/-- The matrix with a list of cells replaced, in order. -/
def ModuleMatrix.setAll (m : ModuleMatrix) : List ((Fin 29 × Fin 29) × Cell) → ModuleMatrix
  | [] => m
  | (p, x) :: xs => (m.set p.1 p.2 x).setAll xs

/-- What a list of replacements makes of a cell depends on that cell alone. -/
theorem ModuleMatrix.get_setAll_congr {m m' : ModuleMatrix} {r c : Fin 29} (h : m.get r c = m'.get r c)
    (xs : List ((Fin 29 × Fin 29) × Cell)) : (m.setAll xs).get r c = (m'.setAll xs).get r c := by
  induction xs generalizing m m' with
  | nil => exact h
  | cons x xs ih => exact ih (by rw [get_set, get_set, h])

theorem ModuleMatrix.get_setAll_other (m : ModuleMatrix) {r c : Fin 29} {xs : List ((Fin 29 × Fin 29) × Cell)}
    (h : ∀ x ∈ xs, x.1 ≠ (r, c)) : (m.setAll xs).get r c = m.get r c := by
  induction xs generalizing m with
  | nil => rfl
  | cons x xs ih =>
    obtain ⟨hx, hxs⟩ := List.forall_mem_cons.1 h
    exact (ih _ hxs).trans (m.get_set_other _ fun ⟨hr, hc⟩ => hx (Prod.ext hr hc))

/-- A list that names no cell twice leaves each of its cells as it says. -/
theorem ModuleMatrix.get_setAll_of_mem (m : ModuleMatrix) {xs : List ((Fin 29 × Fin 29) × Cell)} {r c : Fin 29}
    {x : Cell} (hnodup : (xs.map Prod.fst).Nodup) (hx : ((r, c), x) ∈ xs) : (m.setAll xs).get r c = x := by
  induction xs generalizing m with
  | nil => cases hx
  | cons y ys ih =>
    obtain ⟨hnew, hrest⟩ := List.nodup_cons.1 hnodup
    rcases List.mem_cons.1 hx with rfl | hx
    · have hlater : ∀ z ∈ ys, z.1 ≠ (r, c) := fun z hz heq => hnew (List.mem_map.2 ⟨z, hz, heq⟩)
      exact (get_setAll_other _ hlater).trans (m.get_set_same r c x)
    · exact ih _ hrest hx

/-- The cells the overlay replaces: bit i at P[i], then at Q[i] (spec/43_matrix.md R188). -/
def formatCells : List Bool → List (Fin 29 × Fin 29) → List (Fin 29 × Fin 29) → List ((Fin 29 × Fin 29) × Cell)
  | b :: bs, p :: ps, q :: qs =>
    (p, ⟨bitVal (some b), true⟩) :: (q, ⟨bitVal (some b), true⟩) :: formatCells bs ps qs
  | _, _, _ => []

theorem mem_formatCells {bs : List Bool} {ps qs : List (Fin 29 × Fin 29)} {i : Nat} {b : Bool} {p : Fin 29 × Fin 29}
    (hps : ps.length = bs.length) (hqs : qs.length = bs.length) (hb : bs[i]? = some b)
    (hp : ps[i]? = some p ∨ qs[i]? = some p) : (p, ⟨bitVal (some b), true⟩) ∈ formatCells bs ps qs := by
  induction bs generalizing ps qs i with
  | nil => simp at hb
  | cons b₀ bs ih =>
    match ps, qs, i with
    | p₀ :: ps, q₀ :: qs, 0 =>
      obtain rfl : b₀ = b := by simpa using hb
      rcases hp with hp | hp
      · obtain rfl : p₀ = p := by simpa using hp
        exact List.mem_cons_self
      · obtain rfl : q₀ = p := by simpa using hp
        exact List.mem_cons_of_mem _ List.mem_cons_self
    | p₀ :: ps, q₀ :: qs, i + 1 =>
      have hrest := ih (Nat.succ.inj hps) (Nat.succ.inj hqs) hb hp
      exact List.mem_cons_of_mem _ (List.mem_cons_of_mem _ hrest)

theorem placeFormat_eq_setAll {bs : List Bool} {ps qs : List (Int × Int)} {ps' qs' : List (Fin 29 × Fin 29)}
    (m : ModuleMatrix) (hps : ps.map (fun p => toCoord p.1 p.2) = ps'.map some)
    (hqs : qs.map (fun q => toCoord q.1 q.2) = qs'.map some) :
    placeFormat bs ps qs m = .ok (m.setAll (formatCells bs ps' qs')) := by
  match bs, ps, ps', qs, qs' with
  | [], _, _, _, _ => simp [placeFormat, formatCells, ModuleMatrix.setAll]
  | _ :: _, [], [], _, _ => simp [placeFormat, formatCells, ModuleMatrix.setAll]
  | _ :: _, _ :: _, _ :: _, [], [] => simp [placeFormat, formatCells, ModuleMatrix.setAll]
  | b :: bs, p :: ps, p' :: ps', q :: qs, q' :: qs' =>
    simp only [List.map_cons, List.cons.injEq] at hps hqs
    simp only [placeFormat, checkedAt, hps.1, hqs.1, Built.andThen_ok]
    exact placeFormat_eq_setAll _ hps.2 hqs.2

/-- The format word (spec/43_matrix.md R185). -/
theorem formatWord_eq : formatWord = 0x77C4#15 := by decide

/-- The overlay of the format word, F[i] at P[i] and Q[i] (spec/43_matrix.md R185 to R188). -/
def formatOverlay : List ((Fin 29 × Fin 29) × Cell) :=
  formatCells ((List.range 15).map (0x77C4#15).getLsbD) primaryCells secondaryCells

theorem phaseFormat_eq_setAll (m : ModuleMatrix) : phaseFormat m = .ok (m.setAll formatOverlay) := by
  rw [phaseFormat, formatBits, formatWord_eq]
  exact placeFormat_eq_setAll m primaryCoords_toCoord secondaryCoords_toCoord

theorem formatOverlay_nodup : (formatOverlay.map Prod.fst).Nodup := by decide +kernel

/-! ### The built matrix -/

/-- The function cells of every built matrix: the patterns of phases 0 to 4 under the format overlay
(spec/43_matrix.md R191). -/
def functionMatrix : ModuleMatrix := patternMatrix.setAll formatOverlay

theorem patternMatrix_func : ∀ r c, (patternMatrix.get r c).func = decide (IsFunctionCell r.val c.val) := by
  decide +kernel

theorem functionMatrix_func : ∀ r c, (functionMatrix.get r c).func = decide (IsFunctionCell r.val c.val) := by
  decide +kernel

/-- The overlay replaces function cells only. -/
theorem formatOverlay_on_function_cells : ∀ x ∈ formatOverlay, IsFunctionCell x.1.1.val x.1.2.val := by decide +kernel

/-- The data cells of the walk, in its order, are those written out pass by pass (spec/43_matrix.md R182). -/
theorem walkOrder_filter_data :
    walkOrder.filter (fun p => (patternMatrix.get p.1 p.2).func = false) = dataCells := by
  rw [walkOrder_eq_zigzag, dataCells]
  refine List.filter_congr fun p _ => ?_
  rw [patternMatrix_func]
  simp

/-- The walk skips column 6, and every cell of column 6 is a function cell. -/
theorem mem_dataCells {r c : Fin 29} : (r, c) ∈ dataCells ↔ ¬ IsFunctionCell r.val c.val := by
  rw [dataCells, ← walkOrder_eq_zigzag, List.mem_filter, mem_walkOrder, decide_eq_true_iff]
  refine and_iff_right_of_imp fun hdata h6 => hdata ?_
  have hcolumn : c.val = 6 := congrArg Fin.val h6
  omega

theorem buildMatrix_eq_ok {codewords : List Byte} {m : ModuleMatrix} (h : buildMatrix codewords = .ok m) :
    ∃ m₁, placeData walkOrder (placementBits codewords) patternMatrix = .ok m₁ ∧
      m = (phaseMask m₁).setAll formatOverlay := by
  rw [buildMatrix, functionPatterns_eq, Built.andThen_ok] at h
  obtain ⟨m₁, hplace, hformat⟩ := Built.andThen_eq_ok.1 h
  rw [phaseFormat_eq_setAll] at hformat
  exact ⟨m₁, hplace, (Built.ok.inj hformat).symm⟩

/-- Every function cell of a built matrix is that of `functionMatrix`, whatever the codewords
(spec/43_matrix.md R191). -/
theorem buildMatrix_get_function {codewords : List Byte} {m : ModuleMatrix} (h : buildMatrix codewords = .ok m)
    {r c : Fin 29} (hrc : IsFunctionCell r.val c.val) : m.get r c = functionMatrix.get r c := by
  obtain ⟨m₁, hplace, rfl⟩ := buildMatrix_eq_ok h
  have hfunc : (patternMatrix.get r c).func = true := by rw [patternMatrix_func, decide_eq_true hrc]
  have hkept : m₁.get r c = patternMatrix.get r c := placeData_keeps hplace (.inl hfunc)
  refine ModuleMatrix.get_setAll_congr ?_ _
  rw [phaseMask_get, hkept, maskedCell_of_func hfunc]

/-- The k-th data cell of a built matrix holds bit k XOR the mask (spec/43_matrix.md R181 to R184). -/
theorem buildMatrix_get_data {codewords : List Byte} {m : ModuleMatrix} (h : buildMatrix codewords = .ok m)
    {k : Nat} {r c : Fin 29} (hk : dataCells[k]? = some (r, c)) :
    m.get r c = ⟨moduleOf (dataBit codewords k ^^ maskAt r c), false⟩ := by
  obtain ⟨m₁, hplace, rfl⟩ := buildMatrix_eq_ok h
  have hdata : ¬ IsFunctionCell r.val c.val := mem_dataCells.1 (List.mem_of_getElem? hk)
  have hplaced : m₁.get r c = ⟨moduleOf (dataBit codewords k), false⟩ := by
    rw [← walkOrder_filter_data] at hk
    rw [placeData_get_data hplace hk, bitVal_placementBits]
  have hoverlay : ∀ x ∈ formatOverlay, x.1 ≠ (r, c) := by
    intro x hx hrc
    have hfunction := formatOverlay_on_function_cells x hx
    rw [hrc] at hfunction
    exact hdata hfunction
  rw [ModuleMatrix.get_setAll_other _ hoverlay, phaseMask_get, hplaced, maskedCell_data]

/-- The function cells of every built matrix are those of spec/43_matrix.md R174 to R180. -/
theorem buildMatrix_func {codewords : List Byte} {m : ModuleMatrix} (h : buildMatrix codewords = .ok m)
    (r c : Fin 29) : (m.get r c).func = decide (IsFunctionCell r.val c.val) := by
  by_cases hrc : IsFunctionCell r.val c.val
  · rw [buildMatrix_get_function h hrc, functionMatrix_func]
  · obtain ⟨k, hk⟩ := List.mem_iff_getElem?.1 (mem_dataCells.2 hrc)
    rw [buildMatrix_get_data h hk, decide_eq_false hrc]

/-- What holds of a function cell of `functionMatrix` holds of it in every built matrix. -/
theorem buildMatrix_get_pattern {codewords : List Byte} {m : ModuleMatrix} (h : buildMatrix codewords = .ok m)
    {r c : Fin 29} {v : Val} (hv : functionMatrix.get r c = ⟨v, true⟩) : m.get r c = ⟨v, true⟩ := by
  have hfunc : decide (IsFunctionCell r.val c.val) = true := by rw [← functionMatrix_func, hv]
  rw [buildMatrix_get_function h (of_decide_eq_true hfunc), hv]

/-! ### The patterns and the format word, as drawn -/

/-- The top-left corners of the three finder squares (spec/43_matrix.md R174). -/
abbrev finderOrigins : List (Fin 29 × Fin 29) := [(0, 0), (0, 22), (22, 0)]

/-- The finders (spec/43_matrix.md R173, R174). -/
theorem functionMatrix_finder : ∀ z ∈ finderOrigins, ∀ (dr dc : Fin 7) (r : Fin 29), r.val = z.1.val + dr.val →
    ∀ c : Fin 29, c.val = z.2.val + dc.val →
      functionMatrix.get r c =
        ⟨moduleOf (decide (dr.val = 0 ∨ dr.val = 6 ∨ dc.val = 0 ∨ dc.val = 6 ∨
          (2 ≤ dr.val ∧ dr.val ≤ 4 ∧ 2 ≤ dc.val ∧ dc.val ≤ 4))), true⟩ := by decide +kernel

/-- The margins of the finders, where in-bounds (spec/43_matrix.md R174). -/
theorem functionMatrix_separator : ∀ z ∈ finderOrigins, ∀ dr dc : Fin 9,
    (dr.val = 0 ∨ dr.val = 8 ∨ dc.val = 0 ∨ dc.val = 8) → ∀ r : Fin 29, r.val + 1 = z.1.val + dr.val →
      ∀ c : Fin 29, c.val + 1 = z.2.val + dc.val → functionMatrix.get r c = ⟨.light, true⟩ := by decide +kernel

/-- The timing patterns (spec/43_matrix.md R175). -/
theorem functionMatrix_timing : ∀ i : Fin 29, 8 ≤ i.val → i.val ≤ 20 →
    functionMatrix.get 6 i = ⟨moduleOf (decide (i.val % 2 = 0)), true⟩ ∧
      functionMatrix.get i 6 = ⟨moduleOf (decide (i.val % 2 = 0)), true⟩ := by decide +kernel

/-- The alignment pattern (spec/43_matrix.md R176). -/
theorem functionMatrix_alignment : ∀ (dr dc : Fin 5) (r : Fin 29), r.val = 20 + dr.val →
    ∀ c : Fin 29, c.val = 20 + dc.val →
      functionMatrix.get r c =
        ⟨moduleOf (decide (dr.val = 0 ∨ dr.val = 4 ∨ dc.val = 0 ∨ dc.val = 4 ∨ (dr.val = 2 ∧ dc.val = 2))), true⟩ := by
  decide +kernel

/-- The dark module (spec/43_matrix.md R177). -/
theorem functionMatrix_darkModule : functionMatrix.get 21 8 = ⟨.dark, true⟩ := by decide +kernel

/-- Both copies of the format word (spec/43_matrix.md R186 to R188). -/
theorem functionMatrix_format {i : Nat} {r c : Fin 29}
    (hi : primaryCells[i]? = some (r, c) ∨ secondaryCells[i]? = some (r, c)) :
    functionMatrix.get r c = ⟨moduleOf ((0x77C4#15).getLsbD i), true⟩ := by
  have hlt : i < 15 := by
    rcases hi with hP | hQ
    · exact (List.getElem?_eq_some_iff.1 hP).1
    · exact (List.getElem?_eq_some_iff.1 hQ).1
  have hbit : ((List.range 15).map (0x77C4#15).getLsbD)[i]? = some ((0x77C4#15).getLsbD i) := by
    rw [List.getElem?_map, List.getElem?_range hlt, Option.map_some]
  have hmem : ((r, c), ⟨bitVal (some ((0x77C4#15).getLsbD i)), true⟩) ∈ formatOverlay :=
    mem_formatCells (by simp [primaryCells]) (by simp [secondaryCells]) hbit hi
  rw [functionMatrix, patternMatrix.get_setAll_of_mem formatOverlay_nodup hmem, bitVal_some]

/-! ### BUILD -/

theorem exec_build (s : State) : exec .build s = .next (buildStage s).finish := rfl

/-- BUILD stores the matrix its phases lead to and ends (spec/43_matrix.md R171). -/
theorem exec_build_of_ok {s : State} {m : ModuleMatrix} (hm : buildMatrix (s.cwPrefix 70) = .ok m) :
    exec .build s = .next { s with matrix := m, seq := .idle } := by
  obtain ⟨m', hm', hstage⟩ | ⟨f, hf, -⟩ := buildStage_cases s
  · cases hm.symm.trans hm'
    rw [exec_build, hstage, Stage.finish_done, State.endCommand]
  · cases hm.symm.trans hf

end Sys2Proof.Machine
end

section
/-! The obligations about the matrix builder (spec/43_matrix.md). -/

namespace Sys2Proof.Proofs

open Machine Claims

/-- Settles O39: the builder passes its checks on any codewords, so BUILD stores what it answers and ends. -/
theorem buildCompletes : Obligations.BuildCompletes := by
  intro s
  obtain ⟨m, hm, hcomplete⟩ := buildMatrix_ok (s.cwPrefix 70)
  exact ⟨m, exec_build_of_ok hm, hm, hcomplete⟩

/-- Settles O40: the function cells are those of one matrix, built from no codeword. -/
theorem functionCellsDoNotDependOnInput : Obligations.FunctionCellsDoNotDependOnInput := by
  intro c₁ c₂ m₁ m₂ h₁ h₂
  refine ⟨fun r c => ⟨by rw [buildMatrix_func h₁, buildMatrix_func h₂], fun hf => ?_⟩, ?_⟩
  · have hrc : IsFunctionCell r.val c.val := of_decide_eq_true (buildMatrix_func h₁ r c ▸ hf)
    rw [buildMatrix_get_function h₁ hrc, buildMatrix_get_function h₂ hrc]
  · simp only [buildMatrix_func h₁]
    decide +kernel

/-- Settles O41: the k-th data cell of the walk takes bit k, which masking flips where MASK is 1. -/
theorem dataCellsCarryMaskedBits : Obligations.DataCellsCarryMaskedBits :=
  ⟨by decide +kernel, by decide +kernel, by decide +kernel, fun _ _ _ h _ _ _ hk => buildMatrix_get_data h hk⟩

/-- Settles O42: the function cells are those of `functionMatrix`, where each pattern is as drawn. -/
theorem functionPatternsAsDrawn : Obligations.FunctionPatternsAsDrawn := by
  intro codewords m h
  refine ⟨?finders, ?separators, ?timing, ?alignment, buildMatrix_get_pattern h functionMatrix_darkModule⟩
  case finders =>
    intro z hz dr dc r c hr hc
    exact buildMatrix_get_pattern h (functionMatrix_finder z hz dr dc r hr c hc)
  case separators =>
    intro z hz dr dc r c hmargin hr hc
    exact buildMatrix_get_pattern h (functionMatrix_separator z hz dr dc hmargin r hr c hc)
  case timing =>
    intro i hlo hhi
    exact (functionMatrix_timing i hlo hhi).imp (buildMatrix_get_pattern h) (buildMatrix_get_pattern h)
  case alignment =>
    intro dr dc r c hr hc
    exact buildMatrix_get_pattern h (functionMatrix_alignment dr dc r hr c hc)

/-- Settles O43: the overlay puts bit i of the format word at P[i] and Q[i]. -/
theorem formatWordInBothCopies : Obligations.FormatWordInBothCopies :=
  ⟨formatWord_eq, fun _ _ h _ _ _ hi => buildMatrix_get_pattern h (functionMatrix_format hi)⟩

end Sys2Proof.Proofs
end

section
/-! Decimal numbers: the digits the exporter writes are the digits of Mathlib's `Nat.digits` in ASCII
(spec/44_render.md R214). -/

namespace Sys2Proof.Machine

open Claims

/-- The ASCII digit of a number below ten. -/
def asciiDigit (d : Nat) : Byte := BitVec.ofNat 8 (0x30 + d)

theorem asciiDigit_toNat {d : Nat} (h : d < 10) : (asciiDigit d).toNat = 0x30 + d := by
  rw [asciiDigit, BitVec.toNat_ofNat, Nat.mod_eq_of_lt (by omega)]

theorem digitsRev_eq_digits {fuel v : Nat} (hpos : 0 < v) (hfuel : v < fuel) :
    digitsRev fuel v = (Nat.digits 10 v).map asciiDigit := by
  induction fuel generalizing v with
  | zero => omega
  | succ fuel ih =>
    rw [digitsRev, Nat.digits_def' (by decide) hpos, List.map_cons]
    congr 1
    split
    · next h => simp [h]
    · next h => exact ih (Nat.pos_of_ne_zero h) (by omega)

theorem dec_zero : dec 0 = [0x30#8] := rfl

theorem dec_eq_digits {v : Nat} (hpos : 0 < v) : dec v = ((Nat.digits 10 v).map asciiDigit).reverse := by
  rw [dec, digitsRev_eq_digits hpos (Nat.lt_succ_self v)]

theorem decimalValue_reverse_map_asciiDigit {ds : List Nat} (h : ∀ d ∈ ds, d < 10) :
    decimalValue (ds.map asciiDigit).reverse = Nat.ofDigits 10 ds := by
  rw [decimalValue, List.foldl_reverse]
  induction ds with
  | nil => rfl
  | cons d ds ih =>
    obtain ⟨hd, hds⟩ := List.forall_mem_cons.1 h
    rw [List.map_cons, List.foldr_cons, ih hds, Nat.ofDigits_cons, asciiDigit_toNat hd, Nat.add_sub_cancel_left,
      Nat.add_comm]

theorem decimalValue_dec (v : Nat) : decimalValue (dec v) = v := by
  obtain rfl | hpos := Nat.eq_zero_or_pos v
  · rfl
  · rw [dec_eq_digits hpos, decimalValue_reverse_map_asciiDigit fun d => Nat.digits_lt_base (by decide),
      Nat.ofDigits_digits]

theorem mem_dec_isDigit {v : Nat} {b : Byte} (hb : b ∈ dec v) : 0x30 ≤ b.toNat ∧ b.toNat ≤ 0x39 := by
  obtain rfl | hpos := Nat.eq_zero_or_pos v
  · rw [dec_zero, List.mem_singleton] at hb
    simp [hb]
  · rw [dec_eq_digits hpos, List.mem_reverse, List.mem_map] at hb
    obtain ⟨d, hd, rfl⟩ := hb
    have hlt : d < 10 := Nat.digits_lt_base (by decide) hd
    rw [asciiDigit_toNat hlt]
    omega

/-- The first digit written is the most significant one, which is not 0. -/
theorem dec_no_leading_zero {v : Nat} (hv : v ≠ 0) : ∃ b bs, dec v = b :: bs ∧ b ≠ 0x30#8 := by
  have hne : Nat.digits 10 v ≠ [] := Nat.digits_ne_nil_iff_ne_zero.2 hv
  set d := (Nat.digits 10 v).getLast hne with hd
  have hlt : d < 10 := Nat.digits_lt_base (by decide) (List.getLast_mem hne)
  have hpos : d ≠ 0 := Nat.getLast_digit_ne_zero 10 hv
  refine ⟨asciiDigit d, ((Nat.digits 10 v).dropLast.map asciiDigit).reverse, ?_, fun h => ?_⟩
  · rw [dec_eq_digits (Nat.pos_of_ne_zero hv)]
    conv_lhs => rw [← List.dropLast_append_getLast hne]
    simp [hd]
  · have := asciiDigit_toNat hlt
    rw [h, BitVec.toNat_ofNat] at this
    omega

end Sys2Proof.Machine
end

section
/-! The bytes of a document, line by line: each line as the spec's text writes it, and its length
(spec/44_render.md R213, R215, R222). -/

namespace Sys2Proof.Machine

open Claims

/-! ### The lines as texts -/

theorem docHeader_eq_headerBytes (c : Nat) : docHeader c = headerBytes c := by
  simp [docHeader, headerBytes, attr, textBytes, ascii, lf, svgNamespace]

theorem docBackground_eq_backgroundBytes (c : Nat) : docBackground c = backgroundBytes c := by
  simp [docBackground, rectLine, backgroundBytes, attr, textBytes, ascii, lf, dec_zero]

theorem docRect_eq_rectBytes (s p : Nat) (r c : Fin 29) : docRect s p r c = rectBytes s p r.val c.val := by
  simp [docRect, rectLine, rectBytes, attr, textBytes, ascii, lf]

theorem docTrailer_eq_textBytes : docTrailer = textBytes "</svg>\n" := rfl

/-- Row-major order is row by row and, in a row, column by column (spec/44_render.md R215). -/
theorem flatMap_allCells {α : Type} (f : Fin 29 × Fin 29 → List α) :
    allCells.flatMap f =
      (List.finRange 29).flatMap fun r => (List.finRange 29).flatMap fun c => f (r, c) := by
  simp only [allCells, List.flatMap_assoc, List.flatMap_map]

theorem document_eq_documentBytes (m : ModuleMatrix) (s p : Nat) : document m s p = documentBytes m s p := by
  simp only [document, documentBytes, canvas, docHeader_eq_headerBytes, docBackground_eq_backgroundBytes,
    docTrailer_eq_textBytes, flatMap_allCells, cellRect, docRect_eq_rectBytes]

/-! ### Lengths -/

@[simp] theorem ascii_length (cs : List Char) : (ascii cs).length = cs.length := List.length_map _

@[simp] theorem attr_length (name : List Char) (value : List Byte) :
    (attr name value).length = name.length + value.length + 4 := by
  simp only [attr, List.length_append, ascii_length, List.length_cons, List.length_nil]
  omega

theorem docHeader_length (c : Nat) : (docHeader c).length = 76 + 4 * dig c := by
  simp only [docHeader, svgNamespace, List.length_append, ascii_length, attr_length, List.length_cons, List.length_nil,
    dig]
  omega

theorem rectLine_length (x y side : Nat) (fill : List Char) :
    (rectLine x y side fill).length = 45 + fill.length + dig x + dig y + 2 * dig side := by
  simp only [rectLine, List.length_append, ascii_length, attr_length, List.length_cons, List.length_nil, dig]
  omega

theorem docBackground_length (c : Nat) : (docBackground c).length = 52 + 2 * dig c := by
  rw [docBackground, rectLine_length, dig, dec_zero]
  rfl

theorem cellRect_length (m : ModuleMatrix) (s p : Nat) (rc : Fin 29 × Fin 29) :
    (cellRect m s p rc).length = if (m.get rc.1 rc.2).val = .dark then rectLength s p rc else 0 := by
  unfold cellRect
  split
  · rw [docRect, rectLine_length, rectLength]
    rfl
  · rfl

/-- The rectangles of the Dark cells, and nothing for another cell. -/
theorem flatMap_cellRect_length (m : ModuleMatrix) (s p : Nat) (cells : List (Fin 29 × Fin 29)) :
    (cells.flatMap (cellRect m s p)).length =
      ((cells.filter fun rc => (m.get rc.1 rc.2).val = .dark).map (rectLength s p)).sum := by
  simp [List.length_flatMap, cellRect_length, List.sum_map_ite]

theorem document_length (m : ModuleMatrix) (s p : Nat) :
    (document m s p).length =
      (76 + 4 * dig (29 * s + 2 * p)) + (52 + 2 * dig (29 * s + 2 * p)) +
        ((allCells.filter fun rc => (m.get rc.1 rc.2).val = .dark).map (rectLength s p)).sum + 7 := by
  rw [document, List.length_append, List.length_append, List.length_append, docHeader_length, docBackground_length,
    flatMap_cellRect_length, canvas]
  rfl

/-- A document opens with `<`, and more follows. -/
theorem document_eq_cons (m : ModuleMatrix) (s p : Nat) : ∃ bs, document m s p = 0x3C#8 :: bs ∧ bs ≠ [] :=
  ⟨_, rfl, by simp [docTrailer]⟩

end Sys2Proof.Machine
end

section
/-! RENDER's checks and what it does where they pass (spec/44_render.md R211, R216, R221). -/

namespace Sys2Proof.Machine

/-! ### The dimension check -/

theorem dimensionError_eq_zero_iff (scale pad : Int) : dimensionError scale pad = 0#32 ↔ 0 < scale ∧ 0 ≤ pad := by
  rw [dimensionError, ← not_le (b := 0), ← not_lt (a := pad)]
  by_cases hs : scale ≤ 0 <;> by_cases hp : pad < 0 <;> simp [hs, hp]

/-! ### The completeness check -/

/-- Where the list is ordered by `R`, the first element with a property is the one no element before it shares. -/
theorem find?_eq_some_of_pairwise {α : Type} {R : α → α → Prop} {q : α → Bool} {l : List α} {x : α}
    (hl : l.Pairwise R) (hx : x ∈ l) (hq : q x = true) (hbefore : ∀ y, R y x → ¬ q y = true) :
    l.find? q = some x := by
  induction l with
  | nil => exact absurd hx List.not_mem_nil
  | cons y ys ih =>
    obtain ⟨hy, hys⟩ := List.pairwise_cons.1 hl
    rcases List.mem_cons.1 hx with rfl | hx
    · exact List.find?_cons_of_pos hq
    · rw [List.find?_cons_of_neg (hbefore y (hy x hx))]
      exact ih hys hx

/-- Row-major order: by rows, and by columns in a row. -/
theorem allCells_pairwise : allCells.Pairwise (Prod.Lex (· < ·) (· < ·)) := by
  refine List.pairwise_flatMap.2 ⟨fun r _ => ?row, ?rows⟩
  case row => exact (List.pairwise_lt_finRange 29).map _ fun _ _ h => .right r h
  case rows =>
    refine (List.pairwise_lt_finRange 29).imp fun hr x hx y hy => ?_
    obtain ⟨c, -, rfl⟩ := List.mem_map.1 hx
    obtain ⟨c', -, rfl⟩ := List.mem_map.1 hy
    exact .left c c' hr

theorem firstUnset_eq_some {m : ModuleMatrix} {r c : Fin 29} (hunset : (m.get r c).val = .unset)
    (hbefore : ∀ r' c' : Fin 29, (r' < r ∨ (r' = r ∧ c' < c)) → (m.get r' c').val ≠ .unset) :
    firstUnset m = some (r, c) :=
  find?_eq_some_of_pairwise allCells_pairwise (mem_allCells _) (decide_eq_true hunset) fun y hy h =>
    hbefore y.1 y.2 (Prod.lex_def.1 hy) (of_decide_eq_true h)

theorem firstUnset_eq_none_iff {m : ModuleMatrix} : firstUnset m = none ↔ MatrixComplete m := by
  simp [firstUnset, MatrixComplete, mem_allCells]

/-- The row in the second byte and the column in the first are 256·row + col (spec/60_exceptions.md R248). -/
theorem coordInfo_eq (r c : Fin 29) : coordInfo r c = BitVec.ofNat 32 (256 * r.val + c.val) := by
  have hr := r.isLt
  have hc := c.isLt
  apply BitVec.eq_of_toNat_eq
  rw [coordInfo, BitVec.toNat_append, BitVec.toNat_append, BitVec.toNat_ofNat, BitVec.toNat_ofNat, BitVec.toNat_ofNat,
    BitVec.toNat_ofNat, ← Nat.shiftLeft_add_eq_or_of_lt (by omega), ← Nat.shiftLeft_add_eq_or_of_lt (by omega)]
  simp only [Nat.shiftLeft_eq]
  omega

/-! ### RENDER -/

theorem exec_render (s : State) : exec .render s = .next (State.renderStage { s with outCount := 0#32 }) := rfl

theorem renderStage_of_unset {s : State} {r c : Fin 29} (hscale : 0 < s.opScale) (hpad : 0 ≤ s.opPad)
    (hunset : firstUnset s.matrix = some (r, c)) : s.renderStage = s.raise .matrixIncomplete (coordInfo r c) := by
  rcases renderStage_cases s with ⟨hdim, -⟩ | ⟨-, ⟨r', c', hu, h⟩ | ⟨hu, -⟩⟩
  · exact absurd ((dimensionError_eq_zero_iff _ _).2 ⟨hscale, hpad⟩) hdim
  · cases hunset.symm.trans hu
    exact h
  · cases hunset.symm.trans hu

theorem renderStage_of_complete {s : State} {b : Byte} {bs : List Byte} (hscale : 0 < s.opScale) (hpad : 0 ≤ s.opPad)
    (hmatrix : MatrixComplete s.matrix) (hdoc : s.doc = b :: bs) :
    s.renderStage = { s with seq := .stream ⟨0, b, bs⟩ } := by
  have hnone := firstUnset_eq_none_iff.2 hmatrix
  rcases renderStage_cases s with ⟨hdim, -⟩ | ⟨-, ⟨r, c, hu, -⟩ | ⟨-, b', bs', hd, h⟩⟩
  · exact absurd ((dimensionError_eq_zero_iff _ _).2 ⟨hscale, hpad⟩) hdim
  · cases hnone.symm.trans hu
  · cases hdoc.symm.trans hd
    exact h

/-- RENDER on a matrix with an Unset cell reports the first one (spec/44_render.md R216). -/
theorem exec_render_of_unset {s : State} {r c : Fin 29} (hscale : 0 < s.opScale) (hpad : 0 ≤ s.opPad)
    (hunset : firstUnset s.matrix = some (r, c)) :
    exec .render s =
      .next { s with
        outCount := 0#32, seq := .idle, errCode := .matrixIncomplete
        errInfo := BitVec.ofNat 32 (256 * r.val + c.val) } := by
  rw [exec_render, renderStage_of_unset (s := { s with outCount := 0#32 }) hscale hpad hunset, coordInfo_eq]
  rfl

/-- Where both checks pass RENDER offers the document's first byte, the rest to follow (spec/44_render.md R221). -/
theorem exec_render_of_complete {s : State} {b : Byte} {bs : List Byte} (hscale : 0 < s.opScale) (hpad : 0 ≤ s.opPad)
    (hmatrix : MatrixComplete s.matrix) (hdoc : s.doc = b :: bs) :
    exec .render s = .next { s with outCount := 0#32, seq := .stream ⟨0, b, bs⟩ } := by
  rw [exec_render, renderStage_of_complete (s := { s with outCount := 0#32 }) hscale hpad hmatrix hdoc]

end Sys2Proof.Machine
end

section
/-! The document stream: a cycle of the sink, the marks of the bytes, and a sink that takes every byte
(spec/44_render.md R217 to R220). -/

namespace Sys2Proof.Machine

open Claims

/-! ### A cycle of the sink -/

theorem step_sink {s : State} {ready err : Bool} (hrst : s.rst = false) (hnext : NextInput s (.sink ready err)) :
    step s = .next (s.tick.sinkCycle ready err) := by
  obtain ⟨es, hi⟩ := hnext
  simp [step_eq_of_cons hi, handleInput, hrst]

theorem sinkCycle_of_stream {s : State} {p : RenderPos} (hseq : s.seq = .stream p) (ready err : Bool) :
    s.sinkCycle ready err =
      if err then s.raise .ioFailure s.outCount else if ready then s.transfer p else s := by
  rw [State.sinkCycle, hseq]

theorem sinkCycle_of_not_streaming {s : State} (hseq : ∀ p, s.seq ≠ .stream p) (ready err : Bool) :
    s.sinkCycle ready err = s := by
  rcases sinkCycle_cases s ready err with ⟨-, h⟩ | ⟨p, hp, -⟩
  · exact h
  · exact absurd hp (hseq p)

/-- Outside streaming the sink's lines do nothing, rst asserted or not (spec/44_render.md R219). -/
theorem step_sink_of_not_streaming {s : State} {ready err : Bool} (hseq : ∀ p, s.seq ≠ .stream p)
    (hnext : NextInput s (.sink ready err)) : step s = .next s.tick := by
  cases hrst : s.rst with
  | false => rw [step_sink hrst hnext, sinkCycle_of_not_streaming (s := s.tick) hseq]
  | true =>
    obtain ⟨es, hi⟩ := hnext
    simp [step_eq_of_cons hi, handleInput, hrst]

theorem docOffer_of_stream {s : State} {p : RenderPos} (hseq : s.seq = .stream p) :
    s.docOffer = some ⟨p.offered, decide (p.pos = 0), p.rest.isEmpty⟩ := by
  rw [State.docOffer, hseq]

theorem docOffer_of_not_streaming {s : State} (hseq : ∀ p, s.seq ≠ .stream p) : s.docOffer = none := by
  cases hq : s.seq with
  | stream p => exact absurd hq (hseq p)
  | init _ | initFailed | idle | busy _ => rw [State.docOffer, hq]

/-! ### The marks -/

@[simp] theorem docFrames_length (d : List Byte) : (docFrames d).length = d.length := List.length_mapIdx

/-- The byte at `pos` goes out with doc_first where none precedes it and with doc_last where none follows it
(spec/44_render.md R218). -/
theorem docFrames_getElem? {d bs : List Byte} {pos : Nat} {b : Byte} (h : d.drop pos = b :: bs) :
    (docFrames d)[pos]? = some ⟨b, decide (pos = 0), bs.isEmpty⟩ := by
  have hb : d[pos]? = some b := by rw [← List.head?_drop, h, List.head?_cons]
  have hlast : decide (pos + 1 = d.length) = bs.isEmpty := by
    have hlen := congrArg List.length h
    rw [List.length_drop, List.length_cons] at hlen
    rw [Bool.eq_iff_iff, decide_eq_true_iff, List.isEmpty_iff_length_eq_zero]
    omega
  rw [docFrames, List.getElem?_mapIdx, hb, Option.map_some, hlast]

theorem docFrames_drop {d bs : List Byte} {pos : Nat} {b : Byte} (h : d.drop pos = b :: bs) :
    (docFrames d).drop pos = ⟨b, decide (pos = 0), bs.isEmpty⟩ :: (docFrames d).drop (pos + 1) := by
  rw [List.drop_eq_getElem?_toList_append, docFrames_getElem? h, Option.toList_some, List.singleton_append]

theorem drop_succ_of_drop {d bs : List Byte} {pos : Nat} {b : Byte} (h : d.drop pos = b :: bs) :
    d.drop (pos + 1) = bs := by
  rw [← List.tail_drop, h, List.tail_cons]

/-! ### A willing sink -/

/-- A run goes on from the state a step leads to. -/
theorem run_succ_of_step {M : Host.Core} {s t : M.State} (h : M.step s = .next t) (k : Nat) :
    M.run (k + 1) s = M.run k t := by
  rw [Host.Core.run, h]

/-- `s` once the sink has taken the marked bytes `fs`, a move each, with no move left and the command ended. -/
def State.emitted (s : State) (fs : List DocByte) : State :=
  { s with
    seq := .idle
    outCount := s.outCount + BitVec.ofNat 32 fs.length
    sent := fs.reverse ++ s.sent
    inputs := []
    draws := s.draws + fs.length }

theorem step_willing_sink {s : State} {p : RenderPos} (hrst : s.rst = false) (hseq : s.seq = .stream p)
    (hnext : NextInput s (.sink true false)) : step s = .next (s.tick.transfer p) := by
  rw [step_sink hrst hnext, sinkCycle_of_stream (s := s.tick) hseq]
  rfl

/-- A transfer and then the bytes behind it are the bytes from the offered one on. -/
theorem emitted_transfer (s : State) (p : RenderPos) (fs : List DocByte) :
    (s.tick.transfer p).emitted fs = s.emitted (⟨p.offered, decide (p.pos = 0), p.rest.isEmpty⟩ :: fs) := by
  have hcount : s.outCount + 1#32 + BitVec.ofNat 32 fs.length = s.outCount + BitVec.ofNat 32 (fs.length + 1) := by
    rw [BitVec.ofNat_add, BitVec.add_assoc, BitVec.add_comm 1#32]
  simp [State.emitted, State.transfer, State.tick, hcount, Nat.add_assoc, Nat.add_comm 1]

/-- Taking what is left of the document `d` is a transfer and then taking what is left after it. -/
theorem emitted_docFrames_drop {d bs : List Byte} {pos : Nat} {b : Byte} (s : State) (h : d.drop pos = b :: bs) :
    s.emitted ((docFrames d).drop pos) = (s.tick.transfer ⟨pos, b, bs⟩).emitted ((docFrames d).drop (pos + 1)) := by
  rw [docFrames_drop h, emitted_transfer]

theorem emitted_nil {s : State} (hseq : s.seq = .idle) (hinputs : s.inputs = []) : s.emitted [] = s := by
  rw [State.emitted, ← hseq, ← hinputs]
  simp

/-- A sink that takes every byte takes the rest of the document `d`, with its marks, and the command ends. -/
theorem run_willing_sink {d bs : List Byte} {b : Byte} {pos : Nat} {s : State} (hrst : s.rst = false)
    (hseq : s.seq = .stream ⟨pos, b, bs⟩) (hd : d.drop pos = b :: bs)
    (hinputs : s.inputs = List.replicate (bs.length + 1) (.sink true false)) :
    Host.Core.run Sys2Proof.core (bs.length + 1) s = .next (s.emitted ((docFrames d).drop pos)) := by
  induction bs generalizing b pos s with
  | nil =>
    have hlast : (docFrames d).drop (pos + 1) = [] := by
      rw [List.drop_eq_nil_iff, docFrames_length]
      exact List.drop_eq_nil_iff.1 (drop_succ_of_drop hd)
    have hempty : (s.tick.transfer ⟨pos, b, []⟩).inputs = [] := by simp [hinputs]
    rw [run_succ_of_step (M := Sys2Proof.core) (step_willing_sink hrst hseq ⟨_, hinputs⟩),
      emitted_docFrames_drop s hd, hlast, emitted_nil (State.transfer_seq _ _) hempty]
    rfl
  | cons b' bs ih =>
    rw [run_succ_of_step (M := Sys2Proof.core) (step_willing_sink hrst hseq ⟨_, hinputs⟩),
      emitted_docFrames_drop s hd]
    exact ih (s := s.tick.transfer _) hrst (State.transfer_seq _ _) (drop_succ_of_drop hd) (by simp [hinputs])

end Sys2Proof.Machine
end

section
/-! The bytes taken, the byte offered and those behind it make the document, along every step
(spec/44_render.md R217, R218, R220). -/

namespace Sys2Proof.Machine

/-! ### What StreamSound says -/

theorem streamSound_of_not_streaming {s : State} (h : ∀ p, s.seq ≠ .stream p) : StreamSound s := by
  cases hq : s.seq with
  | stream p => exact absurd hq (h p)
  | init _ | initFailed | idle | busy _ => simp [StreamSound, hq]

theorem streamSound_iff_of_stream {s : State} {p : RenderPos} (hq : s.seq = .stream p) :
    StreamSound s ↔
      0 < s.opScale ∧ 0 ≤ s.opPad ∧ s.outCount = BitVec.ofNat 32 p.pos ∧
        (s.sent.take p.pos).reverse = (docFrames s.doc).take p.pos ∧ s.doc.drop p.pos = p.offered :: p.rest := by
  rw [StreamSound, hq]

/-- A move that leaves the operands, the matrix, the count, the bytes taken and the sequencer keeps it. -/
theorem streamSound_of_eq {s t : State} (hs : StreamSound s) (hseq : t.seq = s.seq) (hscale : t.scale = s.scale)
    (hpad : t.pad = s.pad) (hmatrix : t.matrix = s.matrix) (hcount : t.outCount = s.outCount)
    (hsent : t.sent = s.sent) : StreamSound t := by
  unfold StreamSound State.doc State.opScale State.opPad
  rwa [hseq, hscale, hpad, hmatrix, hcount, hsent]

/-! ### Commands -/

/-- A document starts with nothing taken and all of it to follow. -/
theorem renderStage_streamSound {s : State} (hcount : s.outCount = 0#32) : StreamSound s.renderStage := by
  rcases renderStage_cases s with ⟨-, h⟩ | ⟨hdim, ⟨r, c, -, h⟩ | ⟨-, b, bs, hdoc, h⟩⟩
  · exact h ▸ streamSound_of_not_streaming nofun
  · exact h ▸ streamSound_of_not_streaming nofun
  · obtain ⟨hscale, hpad⟩ := (dimensionError_eq_zero_iff _ _).1 hdim
    rw [h, streamSound_iff_of_stream rfl]
    exact ⟨hscale, hpad, hcount, rfl, hdoc⟩

theorem runPipeline_streamSound (s : State) : StreamSound s.runPipeline := by
  unfold State.runPipeline
  rcases runStages_writes { s with outCount := 0#32 } with ⟨info, h⟩ | ⟨cs, g, m, -, -, h⟩
  · rw [h]
    exact streamSound_of_not_streaming nofun
  · rw [h]
    exact renderStage_streamSound rfl

/-- Only RENDER and RUN leave a document on the port, from its first byte on (spec/44_render.md R217). -/
theorem exec_streamSound {i : Instr} {s t : State} (h : exec i s = .next t) : StreamSound t := by
  rcases (exec_effect h).seq with hidle | ⟨p, -, rfl | rfl⟩
  · exact streamSound_of_not_streaming fun p => by simp [hidle]
  · exact Host.Outcome.next.inj h ▸ renderStage_streamSound rfl
  · exact Host.Outcome.next.inj h ▸ runPipeline_streamSound s

/-! ### The core, the host and the sink -/

theorem initStep_not_streaming (s : State) (p : InitPos) : ∀ q, (s.initStep p).seq ≠ .stream q := by
  unfold State.initStep
  split <;> exact nofun

theorem coreTurn_streamSound {s t : State} (hs : StreamSound s) (h : coreTurn s = .next t) : StreamSound t := by
  rcases coreTurn_cases h with rfl | ⟨p, -, -, rfl⟩ | ⟨w, e, -, -, -, rfl⟩ | ⟨w, i, -, -, -, hexec⟩
  · exact hs
  · exact streamSound_of_not_streaming (initStep_not_streaming s p)
  · exact streamSound_of_not_streaming nofun
  · exact exec_streamSound hexec

theorem offerCommand_streamSound {s : State} (hs : StreamSound s) (w : Word) : StreamSound (s.offerCommand w) := by
  rcases offerCommand_cases s w with ⟨-, h⟩ | ⟨-, h⟩
  · exact h ▸ streamSound_of_not_streaming nofun
  · exact h ▸ streamSound_of_eq hs rfl rfl rfl rfl rfl rfl

/-- A write that is performed finds the core not BUSY, and so not streaming (spec/20_memory.md R61). -/
theorem writeLoc_streamSound {s : State} (hbusy : s.isBusy = false) (l : Loc) (v : Word) :
    StreamSound (s.writeLoc l v) := by
  refine streamSound_of_not_streaming fun p hp => ?_
  rw [(writeLoc_tables_seq s l v).2] at hp
  simp [State.isBusy, hp] at hbusy

theorem busWrite_streamSound {s : State} (hs : StreamSound s) (a : BitVec 16) (v : Word) :
    StreamSound (s.busWrite a v) := by
  rcases busWrite_cases s a v with ⟨-, h⟩ | ⟨-, ⟨-, h⟩ | ⟨-, h⟩ | ⟨-, -, -, h⟩ | ⟨-, -, hbusy, h⟩⟩
  · exact h.symm ▸ hs
  · exact h ▸ streamSound_of_eq hs rfl rfl rfl rfl rfl rfl
  · exact h ▸ offerCommand_streamSound hs v
  · exact h ▸ streamSound_of_eq hs rfl rfl rfl rfl rfl rfl
  · exact h ▸ writeLoc_streamSound hbusy _ v

theorem State.transfer_doc (s : State) (p : RenderPos) : (s.transfer p).doc = s.doc := rfl

/-- A transfer moves one byte, with its marks, from the head of what remains to the end of what was taken. -/
theorem transfer_streamSound {s : State} {p : RenderPos} (hseq : s.seq = .stream p) (hs : StreamSound s) :
    StreamSound (s.transfer p) := by
  obtain ⟨hscale, hpad, hcount, hsent, hrest⟩ := (streamSound_iff_of_stream hseq).1 hs
  have htransfer := s.transfer_seq p
  cases hp : p.rest with
  | nil =>
    rw [hp] at htransfer
    exact streamSound_of_not_streaming fun q => by simp [htransfer]
  | cons b bs =>
    rw [hp] at htransfer
    refine (streamSound_iff_of_stream htransfer).2 ⟨hscale, hpad, ?count, ?sent, ?rest⟩
    case count => rw [State.transfer_outCount, hcount, BitVec.ofNat_add]
    case sent =>
      rw [State.transfer_doc, State.transfer_sent, List.take_succ_cons, List.reverse_cons, hsent, List.take_add_one,
        docFrames_getElem? hrest, Option.toList_some]
    case rest => exact (drop_succ_of_drop hrest).trans hp

theorem sinkCycle_streamSound {s : State} (hs : StreamSound s) (ready err : Bool) :
    StreamSound (s.sinkCycle ready err) := by
  rcases sinkCycle_cases s ready err with ⟨-, h⟩ | ⟨p, hseq, ⟨-, h⟩ | ⟨-, -, h⟩ | ⟨-, -, h⟩⟩
  · exact h.symm ▸ hs
  · exact h ▸ streamSound_of_not_streaming nofun
  · exact h ▸ transfer_streamSound hseq hs
  · exact h.symm ▸ hs

end Sys2Proof.Machine
end

section
/-! The obligations about the vector exporter (spec/44_render.md). -/

namespace Sys2Proof.Proofs

open Machine Claims

/-- Settles O50: a transfer moves one byte from the rest to those taken, a command starts a document with none taken,
and every other move leaves the stream or ends it. -/
theorem streamSoundKept : Obligations.StreamSoundKept := by
  intro s t hs h
  have htick : StreamSound s.tick := streamSound_of_eq hs rfl rfl rfl rfl rfl rfl
  rcases step_cases h with hcore | ⟨a, rfl⟩ | ⟨a, v, rfl⟩ | ⟨r, e, -, rfl⟩ | rfl | rfl | rfl
  · exact coreTurn_streamSound htick hcore
  · exact streamSound_of_eq htick rfl rfl rfl rfl rfl rfl
  · exact busWrite_streamSound htick a v
  · exact sinkCycle_streamSound htick r e
  · exact htick
  · exact streamSound_of_not_streaming nofun
  · exact streamSound_of_eq htick rfl rfl rfl rfl rfl rfl

/-- Settles O44: both checks pass, and the document opens with `<`. -/
theorem renderCompletes : Obligations.RenderCompletes := by
  intro s hscale hpad hmatrix
  obtain ⟨bs, hdoc, hne⟩ := document_eq_cons s.matrix s.scale.toInt.toNat s.pad.toInt.toNat
  exact ⟨_, bs, hdoc, rfl, hne, exec_render_of_complete hscale hpad hmatrix hdoc⟩

/-- Settles O46: the first Unset cell of the row-major order is the one no cell before it shares its value with. -/
theorem renderIncompleteMatrix : Obligations.RenderIncompleteMatrix := by
  intro s r c hscale hpad hunset hbefore
  exact exec_render_of_unset hscale hpad (firstUnset_eq_some hunset hbefore)

/-- Settles O47: the digits are those of `Nat.digits`, in ASCII and most significant first. -/
theorem decimalDigits : Obligations.DecimalDigits :=
  ⟨fun v => ⟨fun _ => mem_dec_isDigit, decimalValue_dec v, dec_no_leading_zero⟩, dec_zero⟩

/-- Settles O48: each line is the spec's text with the numbers put in, and the lengths add up. -/
theorem documentLength : Obligations.DocumentLength := fun m s p =>
  ⟨document_eq_documentBytes m s p, document_length m s p⟩

/-- Settles O51: the core offers the document, and the sink takes it byte by byte. -/
theorem renderEmitsTheDocument : Obligations.RenderEmitsTheDocument := by
  intro s hrst hseq hscale hpad hmatrix hinputs
  obtain ⟨bs, hdoc, -⟩ := document_eq_cons s.matrix s.scale.toInt.toNat s.pad.toInt.toNat
  have hlen : s.doc.length = bs.length + 1 := congrArg List.length hdoc
  have hstep : step s = .next { s.tick with outCount := 0#32, seq := .stream ⟨0, 0x3C#8, bs⟩ } := by
    have hdecode : decode 0x00000006#32 = .ok .render := decode_encode .render
    rw [step_of_coreNext_of_busy hrst (.inr ⟨_, hinputs⟩) hseq, runAccepted_of_ok hdecode]
    exact exec_render_of_complete (s := s.tick) hscale hpad hmatrix hdoc
  have hrun := run_willing_sink (s := { s.tick with outCount := 0#32, seq := .stream ⟨0, 0x3C#8, bs⟩ }) (d := s.doc)
    (pos := 0) hrst rfl hdoc (by simp [hinputs, hlen])
  rw [run_succ_of_step (M := Sys2Proof.core) hstep, hlen]
  refine hrun.trans ?_
  simp [State.emitted, State.tick, hlen, Nat.add_assoc, Nat.add_comm 1]

/-- Settles O49: the cases of a sink cycle, and the port as the sequencer stands. -/
theorem sinkCycleOutcomes : Obligations.SinkCycleOutcomes := by
  refine ⟨fun s p ready err hrst hseq hnext => ?_, fun s ready err => step_sink_of_not_streaming, fun s p hseq => ?_,
    fun s hseq => ?_⟩
  · rw [step_sink hrst hnext, sinkCycle_of_stream (s := s.tick) hseq]
    rfl
  · have hoffer := docOffer_of_stream hseq
    exact ⟨by rw [State.docValid, hoffer, Option.isSome_some], by cases hrest : p.rest <;> simp [hoffer, hrest]⟩
  · have hoffer := docOffer_of_not_streaming hseq
    exact ⟨by rw [State.docValid, hoffer, Option.isSome_none], hoffer⟩

end Sys2Proof.Proofs
end

section
/-! The stages of RUN on text that fits and on text that does not (spec/45_pipeline.md R231). -/

namespace Sys2Proof.Machine

/-! ### The checks that end a stage -/

/-- Text that does not fit ends ENCODE before it writes (spec/42_bitstream.md R151). -/
theorem encodeStage_of_over {s : State} (hn : 53 < s.opN) :
    encodeStage s = .ended (s.raise .capacityExceeded (BitVec.ofNat 32 (12 + 8 * s.opN))) :=
  ((encodeStage_cases s).resolve_right fun ⟨hfits, _⟩ => by omega).2

theorem exec_encode_of_over {s : State} (hn : 53 < s.opN) :
    exec .encode s = .next (s.raise .capacityExceeded (BitVec.ofNat 32 (12 + 8 * s.opN))) := by
  rw [exec_encode, encodeStage_of_over hn, Stage.finish_ended]

/-- Bit 0 for the scale and bit 1 for the padding (spec/60_exceptions.md R244). -/
theorem dimensionError_eq_ofNat (scale pad : Int) :
    dimensionError scale pad =
      BitVec.ofNat 32 ((if scale ≤ 0 then 1 else 0) + (if pad < 0 then 2 else 0)) := by
  unfold dimensionError
  split <;> split <;> rfl

theorem renderStage_of_illegal {s : State} (h : s.opScale ≤ 0 ∨ s.opPad < 0) :
    s.renderStage =
      s.raise .invalidDimension
        (BitVec.ofNat 32 ((if s.opScale ≤ 0 then 1 else 0) + (if s.opPad < 0 then 2 else 0))) := by
  rw [← dimensionError_eq_ofNat]
  rcases renderStage_cases s with ⟨-, hs⟩ | ⟨hdim, -⟩
  · exact hs
  · have hlegal := (dimensionError_eq_zero_iff _ _).1 hdim
    omega

/-! ### Stages 1 to 3 -/

/-- The codewords RUN leaves in CW[0..69]: the data codewords of the text, then their 15 EC codewords. -/
def State.runCodewords (s : State) : List Byte :=
  dataCodewords s.textLen (s.textPrefix s.opN) ++
    remainder s.tables (dataCodewords s.textLen (s.textPrefix s.opN)) 15

/-- RUN's first three stages done, with the matrix `m`; `runStages_of_fits` says that they leave this state. -/
def State.afterStages (s : State) (m : ModuleMatrix) : State :=
  { s with
    outCount := 0#32
    gen := genOf (generator s.tables 15)
    cw := Memory.writeList s.cw 0 s.runCodewords
    matrix := m }

theorem runCodewords_length {s : State} (hn : s.opN ≤ 53) : s.runCodewords.length = 70 := by
  rw [State.runCodewords, List.length_append, dataCodewords_textPrefix_length hn, remainder_length]

/-- The codewords depend on the text bytes, where these have been written, and on the tables alone. -/
theorem runCodewords_congr {s t : State} (htables : t.tables = s.tables) (hlen : t.textLen = s.textLen)
    (htext : ∀ i, i < s.opN → ∃ b, Memory.read s.text i = some b ∧ Memory.read t.text i = some b) :
    t.runCodewords = s.runCodewords := by
  have hopN : t.opN = s.opN := congrArg BitVec.toNat hlen
  have hprefix : t.textPrefix s.opN = s.textPrefix s.opN := List.map_congr_left fun i hi => by
    obtain ⟨b, hs, ht⟩ := htext i (List.mem_range.1 hi)
    rw [State.textEntry, State.textEntry, hs, ht, Option.getD_some, Option.getD_some]
  rw [State.runCodewords, State.runCodewords, hopN, hlen, hprefix, htables]

/-- What a read of CW sees after stage 2: the codewords in CW[0..69], the old entries elsewhere. -/
theorem read_runCodewords_cw {s : State} (hn : s.opN ≤ 53) (a : Nat) :
    Memory.read (Memory.writeList s.cw 0 s.runCodewords) a =
      if a < 70 then s.runCodewords[a]? else Memory.read s.cw a := by
  simp only [Memory.read_writeList, runCodewords_length hn, Nat.zero_le, true_and, Nat.zero_add, Nat.sub_zero]

/-- A command reads from the start of CW what has been written there. -/
theorem cwPrefix_of_written {s : State} {m : Memory} {bs : List Byte} (hcw : s.cw = Memory.writeList m 0 bs) :
    s.cwPrefix bs.length = bs := by
  refine List.ext_getElem (by simp [State.cwPrefix]) fun a _ ha => ?_
  simp [State.cwPrefix, State.cwEntry, hcw, Memory.read_writeList, ha]

/-- Stage 2 appends the EC codewords to the data codewords that stage 1 has written. -/
theorem rsCode_encoded {s t : State} (hn : s.opN ≤ 53)
    (hcw : t.cw = Memory.writeList s.cw 0 (dataCodewords s.textLen (s.textPrefix s.opN)))
    (htables : t.tables = s.tables) :
    t.rsCode 55 15 =
      { t with gen := genOf (generator s.tables 15), cw := Memory.writeList s.cw 0 s.runCodewords } := by
  have hdata := cwPrefix_of_written hcw
  have happend := Memory.writeList_append s.cw 0 (dataCodewords s.textLen (s.textPrefix s.opN))
    (remainder s.tables (dataCodewords s.textLen (s.textPrefix s.opN)) 15)
  rw [dataCodewords_textPrefix_length hn] at hdata happend
  rw [State.rsCode, hdata, hcw, htables, State.runCodewords, ← happend]

/-- BUILD reads the codewords that stages 1 and 2 have written. -/
theorem cwPrefix_runCodewords {s t : State} (hn : s.opN ≤ 53) (hcw : t.cw = Memory.writeList s.cw 0 s.runCodewords) :
    t.cwPrefix 70 = s.runCodewords := by
  rw [← runCodewords_length hn, cwPrefix_of_written hcw]

theorem buildStage_of_ok {s : State} {m : ModuleMatrix} (hm : buildMatrix (s.cwPrefix 70) = .ok m) :
    buildStage s = .done { s with matrix := m } := by
  obtain ⟨m', hm', hstage⟩ | ⟨f, hf, -⟩ := buildStage_cases s
  · cases hm.symm.trans hm'
    exact hstage
  · cases hm.symm.trans hf

theorem runStages_of_fits {s : State} {m : ModuleMatrix} (hn : s.opN ≤ 53) (hm : buildMatrix s.runCodewords = .ok m) :
    runStages { s with outCount := 0#32 } = .done (s.afterStages m) := by
  obtain ⟨-, hencode⟩ := (encodeStage_cases { s with outCount := 0#32 }).resolve_left fun ⟨hover, _⟩ =>
    absurd hn (Nat.not_le.2 hover)
  rw [runStages, hencode, Stage.andThen_done, runCodeStage, rsCode_encoded (s := s) hn, Stage.andThen_done]
  case hcw | htables => rfl
  exact buildStage_of_ok ((congrArg buildMatrix (cwPrefix_runCodewords hn rfl)).trans hm)

/-- RS_REM with RS_LEN = 55 and RS_DEG = 15, after ENCODE, is stage 2 (spec/45_pipeline.md R232). -/
theorem exec_rsRem_encoded {s t : State} (hn : s.opN ≤ 53)
    (hcw : t.cw = Memory.writeList s.cw 0 (dataCodewords s.textLen (s.textPrefix s.opN)))
    (htables : t.tables = s.tables) (hlen : t.opL = 55) (hdeg : t.opK = 15) :
    exec .rsRem t =
      .next { t with
        gen := genOf (generator s.tables 15), cw := Memory.writeList s.cw 0 s.runCodewords, seq := .idle } := by
  rw [exec_rsRem_of_inRange (by omega) (by omega), hlen, hdeg, rsCode_encoded hn hcw htables, State.endCommand]

/-! ### RUN -/

theorem exec_run (s : State) : exec .run s = .next s.runPipeline := rfl

theorem exec_run_of_fits {s : State} {m : ModuleMatrix} (hn : s.opN ≤ 53) (hm : buildMatrix s.runCodewords = .ok m) :
    exec .run s = .next (s.afterStages m).renderStage := by
  rw [exec_run, State.runPipeline, runStages_of_fits hn hm]

theorem exec_run_of_over {s : State} (hn : 53 < s.opN) :
    exec .run s =
      .next (State.raise { s with outCount := 0#32 } .capacityExceeded (BitVec.ofNat 32 (12 + 8 * s.opN))) := by
  rw [exec_run, State.runPipeline, runStages, encodeStage_of_over (s := { s with outCount := 0#32 }) hn,
    Stage.andThen_ended, Stage.andThen_ended]
  rfl

end Sys2Proof.Machine
end

section
/-! What the render stage reads: MATRIX, SCALE and PAD, and nothing else (spec/44_render.md R211, R213, R216). -/

namespace Sys2Proof.Machine

/-- Starting a document changes the sequencer alone, whatever the state. -/
theorem startStream_eq (doc : List Byte) : ∃ q, ∀ s : State, s.startStream doc = { s with seq := q } := by
  cases doc with
  | nil => exact ⟨.idle, fun _ => rfl⟩
  | cons b bs => exact ⟨.stream ⟨0, b, bs⟩, fun _ => rfl⟩

/-- Two states with one matrix and the same operands fail alike or start the same document. -/
theorem renderStage_alike {s t : State} (hmatrix : t.matrix = s.matrix) (hscale : t.scale = s.scale)
    (hpad : t.pad = s.pad) :
    (∃ code info, s.renderStage = s.raise code info ∧ t.renderStage = t.raise code info) ∨
      ∃ doc, s.renderStage = s.startStream doc ∧ t.renderStage = t.startStream doc := by
  unfold State.renderStage State.opScale State.opPad
  rw [hmatrix, hscale, hpad]
  split_ifs
  · exact .inl ⟨_, _, rfl, rfl⟩
  · cases firstUnset s.matrix with
    | some rc => exact .inl ⟨_, _, rfl, rfl⟩
    | none => exact .inr ⟨_, rfl, rfl⟩

/-- The stage neither reads nor writes RS_LEN and RS_DEG, and does not read the sequencer. -/
theorem renderStage_with_rsOperands (s : State) (l k : Byte) :
    { State.renderStage { s.endCommand with rsLen := l, rsDeg := k } with rsLen := s.rsLen, rsDeg := s.rsDeg } =
      s.renderStage := by
  rcases renderStage_alike (s := s) (t := { s.endCommand with rsLen := l, rsDeg := k }) rfl rfl rfl with
    ⟨code, info, hs, ht⟩ | ⟨doc, hs, ht⟩
  · rw [hs, ht]
    rfl
  · obtain ⟨q, hq⟩ := startStream_eq doc
    rw [hs, ht, hq, hq]
    rfl

end Sys2Proof.Machine
end

section
/-! The obligations about the pipeline (spec/45_pipeline.md). -/

namespace Sys2Proof.Proofs

open Machine

/-- Settles O25: NOP's meaning is the end of the command. -/
theorem nopCompletes : Obligations.NopCompletes := fun _ => rfl

/-- Settles O52: the stages complete, and the matrix they leave passes RENDER's checks. -/
theorem runCompletes : Obligations.RunCompletes := by
  intro s hn hscale hpad
  obtain ⟨x, hx, hcomplete⟩ := buildMatrix_ok s.runCodewords
  obtain ⟨bs, hdoc, -⟩ := document_eq_cons x s.scale.toInt.toNat s.pad.toInt.toNat
  refine ⟨_, _, _, _, x, _, bs, rfl, rfl, hx, hdoc, genOf_generator_get s.tables 15,
    fun a ha => (read_runCodewords_cw hn a).trans (if_pos ha),
    fun a ha => (read_runCodewords_cw hn a).trans (if_neg (by omega)), ?_⟩
  rw [exec_run_of_fits hn hx, renderStage_of_complete (s := s.afterStages x) hscale hpad hcomplete hdoc]
  rfl

/-- Settles O53: ENCODE's check comes before any write, and RENDER's after the stages have written. -/
theorem runStopsAtTheFirstError : Obligations.RunStopsAtTheFirstError := by
  refine ⟨fun s hn => exec_run_of_over hn, fun s hn hdim => ?_⟩
  obtain ⟨x, hx, -⟩ := buildMatrix_ok s.runCodewords
  have hread {a : Nat} (ha : a < 70) := (read_runCodewords_cw (s := s) hn a).trans (if_pos ha)
  refine ⟨_, _, _, _, x, rfl, rfl, hx, genOf_generator_get s.tables 15, fun a => hread, fun a ha => ?_,
    fun a ha => (read_runCodewords_cw hn a).trans (if_neg (by omega)), ?_⟩
  · have hlen : a < s.runCodewords.length := by rwa [runCodewords_length hn]
    exact Option.isSome_of_eq_some ((hread ha).trans (List.getElem?_eq_getElem hlen))
  · rw [exec_run_of_fits hn hx, renderStage_of_illegal (s := s.afterStages x) hdim]
    rfl

/-- Settles O54: each command does what RUN's stage does, on operands that only RS_REM reads. -/
theorem runEqualsTheFourCommands : Obligations.RunEqualsTheFourCommands := by
  refine ⟨fun s hn => ?fits, fun s hn => ?tooLong⟩
  case fits =>
    obtain ⟨x, hx, -⟩ := buildMatrix_ok s.runCodewords
    refine ⟨_, _, _, _, exec_encode_of_fits hn, exec_rsRem_encoded hn rfl rfl rfl rfl,
      exec_build_of_ok (m := x) ?build, exec_render _, ?run⟩
    case build => exact (congrArg buildMatrix (cwPrefix_runCodewords hn rfl)).trans hx
    case run =>
      exact (exec_run_of_fits hn hx).trans
        (congrArg Host.Outcome.next (renderStage_with_rsOperands (s.afterStages x) 0x37#8 0x0F#8).symm)
  case tooLong =>
    exact ⟨_, exec_encode_of_over hn, exec_run_of_over hn⟩

/-- Settles O55: the inputs determine the codewords, these the matrix, and that with SCALE and PAD the document. -/
theorem runIsDeterminedByItsInputs : Obligations.RunIsDeterminedByItsInputs := by
  intro s₁ s₂ t₁ htables₁ htables₂ hn hlen hscale hpad htext hrun
  have hn₂ : s₂.opN ≤ 53 := by rwa [State.opN, hlen]
  have hcodewords := runCodewords_congr (htables₂.trans htables₁.symm) hlen htext
  obtain ⟨x, hx, -⟩ := buildMatrix_ok s₁.runCodewords
  have hrun₂ := exec_run_of_fits hn₂ (hcodewords ▸ hx)
  cases (exec_run_of_fits hn hx).symm.trans hrun
  have hcw {a : Nat} (ha : a < 70) :
      Memory.read (s₂.afterStages x).cw a = Memory.read (s₁.afterStages x).cw a := by
    rw [State.afterStages, State.afterStages, read_runCodewords_cw hn₂, read_runCodewords_cw hn, if_pos ha, if_pos ha,
      hcodewords]
  have hgen : (s₂.afterStages x).gen = (s₁.afterStages x).gen := by
    rw [State.afterStages, State.afterStages, htables₁, htables₂]
  refine ⟨_, hrun₂, ?_⟩
  rcases renderStage_alike (s := s₁.afterStages x) (t := s₂.afterStages x) rfl hscale hpad with
    ⟨code, info, h₁, h₂⟩ | ⟨doc, h₁, h₂⟩
  · rw [h₁, h₂]
    exact ⟨fun a => hcw, hgen, rfl, rfl, rfl⟩
  · obtain ⟨q, hq⟩ := startStream_eq doc
    rw [h₁, h₂, hq, hq]
    exact ⟨fun a => hcw, hgen, rfl, rfl, rfl⟩

end Sys2Proof.Proofs
end

section
/-! Every way a step can move the sequencer, the tables and the error registers (spec/10_state.md R21). -/

namespace Sys2Proof.Machine

/-! ### Turns of initialisation -/

/-- A turn of initialisation: the next round, READY, or the failure (spec/70_reset_and_hazards.md R273,
spec/60_exceptions.md R249). -/
theorem initStep_cases (s : State) (p : InitPos) :
    (∃ p' t', initTurn p s.tables = .more p' t' ∧ s.initStep p = { s with seq := .init p', tables := t' }) ∨
      (∃ t', initTurn p s.tables = .complete t' ∧ s.initStep p = { s with seq := .idle, tables := t' }) ∨
      (∃ i x, initTurn p s.tables = .failed i x ∧
        s.initStep p =
          { s with seq := .initFailed, errCode := .internalInvariant, errInfo := 0x1000#16 ++ i ++ x }) := by
  unfold State.initStep
  cases initTurn p s.tables with
  | more p' t' => exact .inl ⟨p', t', rfl, rfl⟩
  | complete t' => exact .inr (.inl ⟨t', rfl, rfl⟩)
  | failed i x => exact .inr (.inr ⟨i, x, rfl, rfl⟩)

/-! ### Moves -/

/-- What a move of the core, the host, the sink or the platform makes of the sequencer, the tables and the error
registers. -/
inductive ControlMove (s : State) : State → Prop where
  /-- they all stay -/
  | kept {t : State} (hseq : t.seq = s.seq) (htables : t.tables = s.tables) (hcode : t.errCode = s.errCode)
      (hinfo : t.errInfo = s.errInfo) (hcmd : t.lastCmd = s.lastCmd) : ControlMove s t
  /-- a turn of table initialisation (spec/70_reset_and_hazards.md R273) -/
  | init {p : InitPos} (hseq : s.seq = .init p) : ControlMove s (s.initStep p)
  /-- a CMD write is accepted (spec/60_exceptions.md R250) -/
  | accept {w : Word} (hseq : s.seq = .idle) : ControlMove s (s.accept w)
  /-- the accepted word is illegal (spec/60_exceptions.md R246) -/
  | illegal {w : Word} (hseq : s.seq = .busy w) : ControlMove s (s.raise .illegalCommand w)
  /-- the accepted command runs (spec/30_encoding.md R97) -/
  | command {w : Word} {i : Instr} {t : State} (hseq : s.seq = .busy w) (hdecode : decode w = .ok i)
      (hexec : exec i s = .next t) : ControlMove s t
  /-- the sink takes the offered byte (spec/44_render.md R217) -/
  | transfer {p : RenderPos} (hseq : s.seq = .stream p) : ControlMove s (s.transfer p)
  /-- the sink fails (spec/44_render.md R219) -/
  | sinkError {p : RenderPos} (hseq : s.seq = .stream p) : ControlMove s (s.raise .ioFailure s.outCount)
  /-- rst is asserted (spec/70_reset_and_hazards.md R270) -/
  | reset : ControlMove s s.assertReset

theorem ControlMove.refl (s : State) : ControlMove s s := .kept rfl rfl rfl rfl rfl

theorem coreTurn_controlMove {s t : State} (h : coreTurn s = .next t) : ControlMove s t := by
  rcases coreTurn_cases h with rfl | ⟨p, -, hseq, rfl⟩ | ⟨w, e, -, hseq, -, rfl⟩ | ⟨w, i, -, hseq, hdecode, hexec⟩
  · exact .refl t
  · exact .init hseq
  · exact .illegal hseq
  · exact .command hseq hdecode hexec

theorem offerCommand_controlMove (s : State) (w : Word) : ControlMove s (s.offerCommand w) := by
  rcases offerCommand_cases s w with ⟨hseq, h⟩ | ⟨-, h⟩
  · exact h ▸ .accept hseq
  · exact h ▸ .kept rfl rfl rfl rfl rfl

theorem writeLoc_controlMove (s : State) (l : Loc) (v : Word) : ControlMove s (s.writeLoc l v) := by
  cases l <;> exact .kept rfl rfl rfl rfl rfl

theorem busWrite_controlMove (s : State) (a : BitVec 16) (v : Word) : ControlMove s (s.busWrite a v) := by
  rcases busWrite_cases s a v with ⟨-, h⟩ | ⟨-, ⟨-, h⟩ | ⟨-, h⟩ | ⟨-, -, -, h⟩ | ⟨-, -, -, h⟩⟩
  · exact h.symm ▸ .refl s
  · exact h ▸ .kept rfl rfl rfl rfl rfl
  · exact h ▸ offerCommand_controlMove s v
  · exact h ▸ .kept rfl rfl rfl rfl rfl
  · exact h ▸ writeLoc_controlMove s _ v

theorem sinkCycle_controlMove (s : State) (ready err : Bool) : ControlMove s (s.sinkCycle ready err) := by
  rcases sinkCycle_cases s ready err with ⟨-, h⟩ | ⟨p, hseq, ⟨-, h⟩ | ⟨-, -, h⟩ | ⟨-, -, h⟩⟩
  · exact h.symm ▸ .refl s
  · exact h ▸ .sinkError hseq
  · exact h ▸ .transfer hseq
  · exact h.symm ▸ .refl s

theorem step_controlMove {s t : State} (h : step s = .next t) : ControlMove s.tick t := by
  rcases step_cases h with hcore | ⟨a, rfl⟩ | ⟨a, v, rfl⟩ | ⟨r, e, -, rfl⟩ | rfl | rfl | rfl
  · exact coreTurn_controlMove hcore
  · exact .kept rfl rfl rfl rfl rfl
  · exact busWrite_controlMove s.tick a v
  · exact sinkCycle_controlMove s.tick r e
  · exact .refl s.tick
  · exact .reset
  · exact .kept rfl rfl rfl rfl rfl

end Sys2Proof.Machine
end

section
/-! The tables along every move: initialisation stays on its course, and READY means that they are built
(spec/60_exceptions.md R249, spec/70_reset_and_hazards.md R274). -/

namespace Sys2Proof.Machine

/-! ### The course of initialisation -/

theorem initReached_succ_eq_some_iff {n : Nat} {p' : InitPos} {t' : Tables} :
    initReached (n + 1) = some (p', t') ↔ ∃ p t, initReached n = some (p, t) ∧ initTurn p t = .more p' t' := by
  rw [initReached]
  cases initReached n with
  | none => simp
  | some pt =>
    obtain ⟨p, t⟩ := pt
    cases hturn : initTurn p t <;> simp [hturn]

/-- The course passes every check: after `n` turns it stands at round `n`, with the powers below `n` built. -/
theorem builtUpTo_of_initReached {n : Nat} {p : InitPos} {t : Tables} (h : initReached n = some (p, t)) :
    p.i.val = n ∧ BuiltUpTo p t := by
  induction n generalizing p t with
  | zero =>
    cases h
    exact ⟨rfl, builtUpTo_start Tables.reset⟩
  | succ n ih =>
    obtain ⟨p₀, t₀, hbefore, hturn⟩ := initReached_succ_eq_some_iff.1 h
    obtain ⟨hi, hbuilt⟩ := ih hbefore
    rcases Nat.lt_or_ge p₀.i.val 255 with hlt | hge
    · obtain ⟨p₁, t₁, hmore, hnext, hbuilt'⟩ := hbuilt.initTurn_more hlt
      cases hmore.symm.trans hturn
      exact ⟨hi ▸ hnext, hbuilt'⟩
    · cases (hbuilt.initTurn_complete (by omega)).symm.trans hturn

/-! ### What TablesSound says -/

theorem tablesSound_iff_of_init {s : State} {p : InitPos} (hseq : s.seq = .init p) :
    TablesSound s ↔ initReached p.i.val = some (p, s.tables) := by
  rw [TablesSound, hseq]

theorem tablesSound_iff_of_isReady {s : State} (h : s.isReady = true) :
    TablesSound s ↔ s.tables = builtTables := by
  unfold State.isReady at h
  unfold TablesSound
  cases hseq : s.seq with
  | init p | initFailed => simp [hseq] at h
  | idle | busy w | stream p => exact Iff.rfl

/-! ### Every move keeps it -/

/-- A move within READY = 1 that leaves the tables keeps it. -/
theorem tablesSound_of_isReady {s t : State} (hs : TablesSound s) (hready : s.isReady = true)
    (hkept : t.tables = s.tables ∧ t.isReady = true) : TablesSound t :=
  (tablesSound_iff_of_isReady hkept.2).2 (hkept.1.trans ((tablesSound_iff_of_isReady hready).1 hs))

/-- A turn of initialisation goes on along the course or, from its last round, ends with the built tables. -/
theorem initStep_tablesSound {s : State} {p : InitPos} (hseq : s.seq = .init p) (hs : TablesSound s) :
    TablesSound (s.initStep p) := by
  have hreached := (tablesSound_iff_of_init hseq).1 hs
  obtain ⟨-, hbuilt⟩ := builtUpTo_of_initReached hreached
  rcases Nat.lt_or_ge p.i.val 255 with hlt | hge
  · obtain ⟨p', t', hturn, hnext, -⟩ := hbuilt.initTurn_more hlt
    rw [State.initStep, hturn, tablesSound_iff_of_init rfl, hnext, initReached_succ_eq_some_iff]
    exact ⟨p, s.tables, hreached, hturn⟩
  · rw [State.initStep, hbuilt.initTurn_complete (by omega)]
    exact (tablesSound_iff_of_isReady rfl).2 rfl

theorem ControlMove.tablesSound {s t : State} (h : ControlMove s t) (hs : TablesSound s) : TablesSound t := by
  cases h with
  | kept hseq htables _ _ _ =>
    unfold TablesSound
    rwa [hseq, htables]
  | init hseq => exact initStep_tablesSound hseq hs
  | accept hseq => exact tablesSound_of_isReady hs (by rw [State.isReady, hseq]) ⟨rfl, rfl⟩
  | illegal hseq => exact tablesSound_of_isReady hs (by rw [State.isReady, hseq]) ⟨rfl, rfl⟩
  | command hseq _ hexec =>
    have heff := exec_effect hexec
    exact tablesSound_of_isReady hs (by rw [State.isReady, hseq]) ⟨heff.tables_eq, heff.isReady⟩
  | transfer hseq => exact tablesSound_of_isReady hs (by rw [State.isReady, hseq]) ⟨rfl, isReady_transfer s _⟩
  | sinkError hseq => exact tablesSound_of_isReady hs (by rw [State.isReady, hseq]) ⟨rfl, rfl⟩
  | reset => exact Proofs.resetStateIsSound.2.1

end Sys2Proof.Machine
end

section
/-! The error registers and LAST_CMD along every move (spec/60_exceptions.md R250, R253, spec/10_state.md R55). -/

namespace Sys2Proof.Machine

/-! ### What StatusSound says -/

theorem statusSound_of_idle {s : State} (hseq : s.seq = .idle) : StatusSound s := by
  simp [StatusSound, hseq]

theorem statusSound_iff_of_init {s : State} {p : InitPos} (hseq : s.seq = .init p) :
    StatusSound s ↔ s.errCode = .noError ∧ s.errInfo = 0#32 := by
  rw [StatusSound, hseq]

theorem statusSound_iff_of_busy {s : State} {w : Word} (hseq : s.seq = .busy w) :
    StatusSound s ↔ s.errCode = .noError ∧ s.errInfo = 0#32 ∧ s.lastCmd = opcOf w := by
  rw [StatusSound, hseq]

theorem statusSound_iff_of_stream {s : State} {p : RenderPos} (hseq : s.seq = .stream p) :
    StatusSound s ↔
      s.errCode = .noError ∧ s.errInfo = 0#32 ∧ (s.lastCmd = 0x06#8 ∨ s.lastCmd = 0x07#8) := by
  rw [StatusSound, hseq]

/-! ### Every move keeps it -/

/-- A round that passes leaves the error registers; the others leave INIT, where they are free. -/
theorem initStep_statusSound {s : State} {p : InitPos} (hseq : s.seq = .init p) (hs : StatusSound s) :
    StatusSound (s.initStep p) := by
  rcases initStep_cases s p with ⟨p', t', -, h⟩ | ⟨t', -, h⟩ | ⟨i, x, -, h⟩
  · rw [h, statusSound_iff_of_init rfl]
    exact (statusSound_iff_of_init hseq).1 hs
  · exact h ▸ statusSound_of_idle rfl
  · exact h ▸ trivial

/-- The opcode of a word that decodes is its command's (spec/30_encoding.md R95). -/
theorem opcOf_of_decode {w : Word} {i : Instr} (h : decode w = .ok i) : opcOf w = opcOfInstr i :=
  instrOfOpc_eq_some_iff.1 (decode_eq_ok_iff.1 h).2

/-- A command ends, or it is RENDER or RUN and streams without an error, and no command writes LAST_CMD. -/
theorem exec_statusSound {s t : State} {w : Word} {i : Instr} (hseq : s.seq = .busy w) (hdecode : decode w = .ok i)
    (hexec : exec i s = .next t) (hs : StatusSound s) : StatusSound t := by
  have heff := exec_effect hexec
  obtain ⟨-, hcmd, -⟩ := heff.unchanged
  rcases heff.seq with hidle | ⟨p, hstream, hi⟩
  · exact statusSound_of_idle hidle
  · obtain ⟨hcode, hinfo, hname⟩ := (statusSound_iff_of_busy hseq).1 hs
    obtain ⟨hcode', hinfo'⟩ := heff.error.resolve_right fun ⟨_, hidle⟩ => nomatch hstream.symm.trans hidle
    have hopc : t.lastCmd = opcOfInstr i := hcmd.trans (hname.trans (opcOf_of_decode hdecode))
    rw [statusSound_iff_of_stream hstream]
    refine ⟨hcode'.trans hcode, hinfo'.trans hinfo, ?_⟩
    rcases hi with rfl | rfl
    · exact .inl hopc
    · exact .inr hopc

/-- A transfer keeps streaming with the same registers, or ends the command. -/
theorem transfer_statusSound {s : State} {p : RenderPos} (hseq : s.seq = .stream p) (hs : StatusSound s) :
    StatusSound (s.transfer p) := by
  have htransfer := s.transfer_seq p
  cases hrest : p.rest with
  | nil =>
    rw [hrest] at htransfer
    exact statusSound_of_idle htransfer
  | cons b bs =>
    rw [hrest] at htransfer
    exact (statusSound_iff_of_stream htransfer).2 ((statusSound_iff_of_stream hseq).1 hs)

theorem ControlMove.statusSound {s t : State} (h : ControlMove s t) (hs : StatusSound s) : StatusSound t := by
  cases h with
  | kept hseq _ hcode hinfo hcmd =>
    unfold StatusSound
    rwa [hseq, hcode, hinfo, hcmd]
  | init hseq => exact initStep_statusSound hseq hs
  | accept _ => exact (statusSound_iff_of_busy rfl).2 ⟨rfl, rfl, rfl⟩
  | illegal _ => exact statusSound_of_idle rfl
  | command hseq hdecode hexec => exact exec_statusSound hseq hdecode hexec hs
  | transfer hseq => exact transfer_statusSound hseq hs
  | sinkError _ => exact statusSound_of_idle rfl
  | reset => exact Proofs.resetStateIsSound.2.2.1

end Sys2Proof.Machine
end

section
/-! The CMD write, the commands whose operands are illegal, and the turns of the core that have nothing to do
(spec/60_exceptions.md R242 to R250, R261). -/

namespace Sys2Proof.Machine

open Claims

/-! ### The CMD write -/

/-- The words whose acceptance clears OUT_COUNT are those of RENDER and RUN (spec/10_state.md R48). -/
theorem clearsOutCount_iff (w : Word) : clearsOutCount w = true ↔ w = 0x00000006#32 ∨ w = 0x00000007#32 := by
  calc clearsOutCount w = true
    _ ↔ decode w = .ok .render ∨ decode w = .ok .run := by
      unfold clearsOutCount
      split <;> simp_all
    _ ↔ w = 0x00000006#32 ∨ w = 0x00000007#32 := or_congr decode_eq_ok_iff_eq_encode decode_eq_ok_iff_eq_encode

theorem accept_eq (s : State) (w : Word) :
    s.accept w =
      { s with
        seq := .busy w, errCode := .noError, errInfo := 0#32, lastCmd := w.extractLsb' 0 8
        outCount := if w = 0x00000006#32 ∨ w = 0x00000007#32 then 0#32 else s.outCount } := by
  simp only [State.accept, clearsOutCount_iff, opcOf]

/-- R250 on the STATUS bits the host reads. -/
theorem offerCommand_eq (s : State) (w : Word) :
    s.offerCommand w = if ReadyBit s ∧ ¬ BusyBit s then s.accept w else s.drop :=
  if_congr (and_congr (readyBit_iff s).symm (not_congr (busyBit_iff s).symm)) rfl rfl

/-- CMD stands at the word address 0x0008, and a write there offers the word (spec/20_memory.md R61, R64). -/
theorem step_write_cmd {s : State} {a : BitVec 16} {w : Word} (hrst : s.rst = false) (ha : wordAddr a = 0x0008#16)
    (hnext : NextInput s (.write a w)) : step s = .next (s.tick.offerCommand w) := by
  obtain ⟨es, hi⟩ := hnext
  have hl : locate a = .cmd := locate_of_wordAddr (l := .cmd) ha
  simp [step_eq_of_cons hi, handleInput, State.busWrite, hrst, hl]

/-! ### Operands out of range -/

theorem exec_rsGen_of_outOfRange {s : State} (hk : 32 < s.opK) :
    exec .rsGen s = .next (s.raise .operandRange s.rangeInfo) := by
  obtain ⟨-, h⟩ := (rsGenStage_cases s).resolve_right fun ⟨hin, _⟩ => Nat.not_lt.2 hin hk
  rw [exec_rsGen, h, Stage.finish_ended]

theorem exec_rsRem_of_outOfRange {s : State} (hout : 32 < s.opK ∨ 128 < s.opL + s.opK) :
    exec .rsRem s = .next (s.raise .operandRange s.rangeInfo) := by
  obtain ⟨-, h⟩ := (rsRemStage_cases s).resolve_right fun ⟨hk, hfit, _⟩ => by omega
  rw [exec_rsRem, h, Stage.finish_ended]

theorem exec_render_of_illegal {s : State} (h : s.opScale ≤ 0 ∨ s.opPad < 0) :
    exec .render s =
      .next (State.raise { s with outCount := 0#32 } .invalidDimension
        (BitVec.ofNat 32 ((if s.opScale ≤ 0 then 1 else 0) + (if s.opPad < 0 then 2 else 0)))) := by
  rw [exec_render, renderStage_of_illegal (s := { s with outCount := 0#32 }) h]
  rfl

/-! ### Turns of the core without work -/

theorem coreTurn_of_nothing_to_do {s : State} (h : s.seq = .idle ∨ s.seq = .initFailed ∨ ∃ p, s.seq = .stream p) :
    coreTurn s = .next s := by
  unfold coreTurn
  rcases h with hseq | hseq | ⟨p, hseq⟩ <;> simp [hseq]

end Sys2Proof.Machine
end

section
/-! The obligations about errors and the end of commands (spec/60_exceptions.md). -/

namespace Sys2Proof.Proofs

open Machine Claims

/-- Settles O22: a turn of initialisation goes on along its course, which ends with the built tables, and no move once
READY but an assertion of rst leaves READY or writes the tables. -/
theorem tablesSoundKept : Obligations.TablesSoundKept := fun _ _ hs h => (step_controlMove h).tablesSound hs

/-- Settles O57: acceptance clears the error registers and sets LAST_CMD, and every error ends its command. -/
theorem statusSoundKept : Obligations.StatusSoundKept := fun _ _ hs h => (step_controlMove h).statusSound hs

/-- Settles O14: the write offers the word, and READY and BUSY decide. -/
theorem commandAcceptance : Obligations.CommandAcceptance := by
  intro s a w hrst ha hnext
  rw [step_write_cmd hrst ha hnext, offerCommand_eq, accept_eq]
  rfl

/-- Settles O32: the range check comes before any write. -/
theorem rsOperandRange : Obligations.RsOperandRange := fun _ =>
  ⟨exec_rsGen_of_outOfRange, exec_rsRem_of_outOfRange⟩

/-- Settles O38: the capacity check comes before any write. -/
theorem encodeOverCapacity : Obligations.EncodeOverCapacity := fun _ => exec_encode_of_over

/-- Settles O45: the dimension check comes before the matrix is looked at. -/
theorem renderInvalidDimension : Obligations.RenderInvalidDimension := fun _ => exec_render_of_illegal

/-- Settles O60: the turn is the core's, which has nothing to do in these states. -/
theorem coreWithNothingToDo : Obligations.CoreWithNothingToDo := by
  intro s _ hnext hseq
  rw [step_of_coreNext hnext, coreTurn_of_nothing_to_do (s := s.tick) hseq]

end Sys2Proof.Proofs
end

section
/-! Moves while rst is asserted, writes that are dropped, and the run of table initialisation
(spec/70_reset_and_hazards.md R270 to R274, R280, R286). -/

namespace Sys2Proof.Machine

open Claims

/-! ### Moves of the host and of rst -/

theorem step_of_nextInput {s : State} {e : Input} (hnext : NextInput s e) : step s = handleInput e s.tick := by
  obtain ⟨es, hi⟩ := hnext
  exact step_eq_of_cons hi

theorem step_write {s : State} {a : BitVec 16} {v : Word} (hnext : NextInput s (.write a v)) :
    step s = .next (s.tick.busWrite a v) := step_of_nextInput hnext

theorem step_assert_reset {s : State} (hnext : NextInput s (.reset true)) : step s = .next s.tick.assertReset :=
  step_of_nextInput hnext

theorem step_deassert_reset {s : State} (hnext : NextInput s (.reset false)) :
    step s = .next s.tick.deassertReset := step_of_nextInput hnext

/-! ### While rst is asserted -/

theorem coreTurn_of_rst {s : State} (hrst : s.rst = true) : coreTurn s = .next s := if_pos hrst

theorem busWrite_of_rst {s : State} (hrst : s.rst = true) (a : BitVec 16) (v : Word) : s.busWrite a v = s :=
  if_pos hrst

theorem step_sink_of_rst {s : State} {ready err : Bool} (hrst : s.rst = true)
    (hnext : NextInput s (.sink ready err)) : step s = .next s.tick := by
  rw [step_of_nextInput hnext, handleInput, State.tick_rst, if_pos hrst]

/-! ### Writes that are dropped -/

/-- While BUSY a CMD write is dropped like every other but one to STATUS (spec/70_reset_and_hazards.md R280). -/
theorem busWrite_of_busy {s : State} {a : BitVec 16} (hrst : s.rst = false) (hbusy : BusyBit s)
    (ha : wordAddr a ≠ 0x0004#16) (v : Word) : s.busWrite a v = s.drop := by
  rcases busWrite_cases s a v with ⟨hr, -⟩ | ⟨-, ⟨hl, -⟩ | ⟨-, h⟩ | ⟨-, -, -, h⟩ | ⟨-, -, hb, -⟩⟩
  · exact absurd (hrst.symm.trans hr) Bool.false_ne_true
  · exact absurd ((locate_eq_status_iff a).1 hl) ha
  · rw [h, offerCommand_eq, if_neg fun hoffer => hoffer.2 hbusy]
  · exact h
  · exact absurd (hb.symm.trans ((busyBit_iff s).1 hbusy)) Bool.false_ne_true

/-- Before READY a CMD write is dropped (spec/70_reset_and_hazards.md R280). -/
theorem step_write_cmd_of_not_ready {s : State} {a : BitVec 16} {w : Word} (hrst : s.rst = false)
    (hready : ¬ ReadyBit s) (ha : wordAddr a = 0x0008#16) (hnext : NextInput s (.write a w)) :
    step s = .next s.tick.drop := by
  rw [step_write_cmd hrst ha hnext, offerCommand_eq, if_neg fun hoffer => hready hoffer.1]

/-! ### The run of table initialisation -/

/-- `s` when `n` more turns have completed the construction: READY, with the tables built. -/
def State.initialised (s : State) (n : Nat) : State :=
  { s with seq := .idle, tables := builtTables, draws := s.draws + n }

theorem step_of_init {s : State} {p : InitPos} (hrst : s.rst = false) (hinputs : s.inputs = [])
    (hseq : s.seq = .init p) : step s = .next (s.tick.initStep p) := by
  rw [step_eq_of_nil hinputs]
  simp [coreTurn, hrst, hseq]

/-- Left alone in any round of the construction, the core completes it in the turns that are left and becomes
READY. -/
theorem run_init {n : Nat} {s : State} {p : InitPos} (hrst : s.rst = false) (hinputs : s.inputs = [])
    (hseq : s.seq = .init p) (hbuilt : BuiltUpTo p s.tables) (hn : p.i.val + n = 256) :
    Host.Core.run Sys2Proof.core n s = .next (s.initialised n) := by
  induction n generalizing s p with
  | zero => omega
  | succ n ih =>
    rw [run_succ_of_step (M := Sys2Proof.core) (step_of_init hrst hinputs hseq)]
    have hempty : s.tick.inputs = [] := by rw [State.tick_inputs, hinputs, List.tail_nil]
    rcases Nat.lt_or_ge p.i.val 255 with hi | hi
    · obtain ⟨p', t', hturn, hp', hbuilt'⟩ := hbuilt.initTurn_more hi
      have hstep : s.tick.initStep p = { s.tick with seq := .init p', tables := t' } := by
        rw [State.initStep, State.tick_tables, hturn]
      rw [hstep, ih (s := { s.tick with seq := .init p', tables := t' }) hrst hempty rfl hbuilt' (by omega)]
      simp [State.initialised, State.tick, hinputs, Nat.add_assoc, Nat.add_comm 1]
    · obtain rfl : n = 0 := by omega
      rw [State.initStep, State.tick_tables, hbuilt.initTurn_complete (by omega)]
      simp [Host.Core.run, State.initialised, State.tick, hinputs]

end Sys2Proof.Machine
end

section
/-! The obligations about reset, initialisation and hazards (spec/70_reset_and_hazards.md). -/

namespace Sys2Proof.Proofs

open Machine Claims

/-- Settles O12: BUSY drops the write whatever it reaches but STATUS, and before READY no command is accepted. -/
theorem writesWhileBusyAreDropped : Obligations.WritesWhileBusyAreDropped := by
  constructor
  · intro s a v hrst hbusy ha hnext
    rw [step_write hnext, busWrite_of_busy (s := s.tick) hrst hbusy ha]
    rfl
  · intro s a v hrst hready ha hnext
    exact step_write_cmd_of_not_ready hrst hready ha hnext

/-- Settles O17: the two moves of rst, from the state with the move taken. -/
theorem resetAbandonsEverything : Obligations.ResetAbandonsEverything :=
  ⟨fun _ => step_assert_reset, fun _ => step_deassert_reset⟩

/-- Settles O18: under rst a turn of the core, a host write and a cycle of the sink each leave the state. -/
theorem nothingMovesUnderReset : Obligations.NothingMovesUnderReset := by
  rintro s hrst (hcore | ⟨a, v, hwrite⟩ | ⟨r, e, hsink⟩)
  · rw [step_of_coreNext hcore, coreTurn_of_rst (s := s.tick) hrst]
  · rw [step_write hwrite, busWrite_of_rst (s := s.tick) hrst]
  · exact step_sink_of_rst hrst hsink

/-- Settles O21: the reset state stands at round 0 of the construction, 256 turns before its end. -/
theorem initialisationEndsReady : Obligations.InitialisationEndsReady :=
  run_init (s := State.reset) rfl rfl rfl (builtUpTo_start Tables.reset) rfl

end Sys2Proof.Proofs
end
